-- ==== Sys2Proof/Word.lean ====
section
/-! DEFINITION. The widths of CFCL: the stimulus word (R70), the bus word (R53), the word index (R50), the
millisecond timebase and the bit buffer (R5). All values are unsigned and arithmetic wraps (R7). -/

namespace Sys2Proof

/-- A stimulus word, 48 bits (R70). -/
abbrev StimWord := BitVec 48

/-- A bus word, `BUS_W` = 32 bits (R5, R53). -/
abbrev Word := BitVec 32

/-- The index of a register word, `WORDS` = 64 of them (R5, R50). -/
abbrev WordIdx := BitVec 6

/-- An instant in ms of the timebase, `TIME_W` = 64 bits (R5, R30). -/
abbrev Time := BitVec 64

/-- A bit buffer, `BUF_W` = 64 bits (R5, R12). -/
abbrev BitBuffer := BitVec 64

/-- A bit count, `CNT_W` = 8 bits (R5, R12). -/
abbrev BitCount := BitVec 8

end Sys2Proof
end

