-- ==== Sys2Proof/Syntax.lean ====
section
/-! DEFINITION. The stimuli of CFCL as syntax: one constructor per row of the opcode table (R77). The block executes no
instructions; its "instruction set" is the set of stimuli that can reach it (30_encoding.md). -/

namespace Sys2Proof

/-- Entry (0) or exit (1): "It names both a reader channel and a lock" (00_scope.md, glossary; numbering D1). -/
inductive Dir where
  | entry
  | exit
  deriving DecidableEq, Repr

/-- A stimulus (R77). `c` is a channel, `d` a direction, `w` a word index, `data` the whole DATA field of a bus write:
the bits a row ignores are kept, so that a constructor's arguments determine the word. -/
inductive Instr where
  | rdChStatus (c : Dir)
  | rdChCount (c : Dir)
  | rdChBufLo (c : Dir)
  | rdChBufHi (c : Dir)
  | rdChDlLo (c : Dir)
  | rdChDlHi (c : Dir)
  | rdChDecode (c : Dir)
  | wrChReset (c : Dir) (data : Word)
  | wrChCtrlNop (c : Dir) (data : Word)
  | rdEvtFlags
  | wrEvtFlags (data : Word)
  | rdLockStatus
  | wrLockUnlock (data : Word)
  | wrLockCmdRsvd (data : Word)
  | rdCloseDlLo (d : Dir)
  | rdCloseDlHi (d : Dir)
  | rdLastRelockLo (d : Dir)
  | rdLastRelockHi (d : Dir)
  | rdNowLo
  | rdNowHi
  | rdReserved (w : WordIdx)
  | wrIgnored (w : WordIdx) (data : Word)
  | pinD0Fall (c : Dir)
  | pinD1Fall (c : Dir)
  | pinDoorEdge
  | tick
  | reset
  | eval
  | seqAdvance
  deriving DecidableEq, Repr

end Sys2Proof
end

