-- ==== Sys2Proof/WellFormed.lean ====
section
/-! DEFINITION. Which stimuli a word of the opcode table can spell: a row's fixed DATA bits (R77) and the word indices that
the less specific rows RD_RESERVED and WR_IGNORED keep after the more specific rows (R75, R77). -/

namespace Sys2Proof

/-- The words that only RD_RESERVED reads: "0x07, 0x0F, 0x12, 0x13 and 0x1E to 0x3F are RD_RESERVED" (R77, R197). -/
def readReserved (w : WordIdx) : Bool :=
  w == 0x07#6 || w == 0x0F#6 || w == 0x12#6 || w == 0x13#6 || (0x1E#6).ule w

/-- The words whose writes are ignored: every word but CH_CTRL (0x07, 0x0F), EVT_FLAGS (0x10) and LOCK_CMD (0x12)
(R77, R198). -/
def writeIgnored (w : WordIdx) : Bool :=
  !(w == 0x07#6 || w == 0x0F#6 || w == 0x10#6 || w == 0x12#6)

/-- The checks of a stimulus that is a word of the table (R77, R78). -/
def Instr.wf : Instr → Bool
  | .wrChReset _ data => data.getLsbD 0
  | .wrChCtrlNop _ data => !data.getLsbD 0
  | .wrLockUnlock data => data.extractLsb' 0 4 == 0x1#4
  | .wrLockCmdRsvd data => data.extractLsb' 0 4 != 0x1#4
  | .rdReserved w => readReserved w
  | .wrIgnored w _ => writeIgnored w
  | .rdChStatus _ | .rdChCount _ | .rdChBufLo _ | .rdChBufHi _ | .rdChDlLo _ | .rdChDlHi _ | .rdChDecode _ => true
  | .rdEvtFlags | .wrEvtFlags _ | .rdLockStatus => true
  | .rdCloseDlLo _ | .rdCloseDlHi _ | .rdLastRelockLo _ | .rdLastRelockHi _ => true
  | .rdNowLo | .rdNowHi => true
  | .pinD0Fall _ | .pinD1Fall _ | .pinDoorEdge => true
  | .tick | .reset | .eval | .seqAdvance => true

end Sys2Proof
end

