-- ==== Sys2Proof/Decode.lean ====
section
/-! DEFINITION. The stimulus word's fields (R70), the decoder (R71 to R76), the encoder, and the opcode table with its
"most specific row" rule (R75, R77). The decoder reads fields; that it is the rule of R75 is an obligation. -/

namespace Sys2Proof

/-! ### Direction bits -/

/-- 0 is entry and 1 is exit (R24, R77). -/
def Dir.ofBit : Bool → Dir
  | false => .entry
  | true => .exit

/-- The bit that spells a channel or direction. -/
def Dir.bit : Dir → Bool
  | .entry => false
  | .exit => true

/-! ### Fields of the stimulus word (R70) -/

/-- CLASS, bits 47:44. -/
def wordClass (x : StimWord) : BitVec 4 := x.extractLsb' 44 4
/-- RSV, bits 43:40. -/
def wordRsv (x : StimWord) : BitVec 4 := x.extractLsb' 40 4
/-- ARG, bits 39:32. -/
def wordArg (x : StimWord) : BitVec 8 := x.extractLsb' 32 8
/-- DATA, bits 31:0. -/
def wordData (x : StimWord) : Word := x.extractLsb' 0 32

/-- The register word index of a bus ARG: ARG[5:0] (R72). -/
def argIndex (a : BitVec 8) : WordIdx := a.extractLsb' 0 6

/-- Why a word is ILLEGAL (R76). All of them are the one refusal IllegalStimulus (R211). -/
inductive Illegal where
  /-- RSV is not 0. -/
  | reservedBits
  /-- CLASS is 0x5 to 0x7 or 0x9 to 0xF. -/
  | unknownClass
  /-- a bus word with ARG[7:6] not 0. -/
  | busArg
  /-- a read, pin, tick, reset or internal word with DATA not 0. -/
  | operandData
  /-- a pin id that R73 does not list. -/
  | pinId
  /-- TICK or RESET with ARG not 0 (R74). -/
  | sysArg
  /-- an internal SUB that R74 does not list. -/
  | subStep
  deriving DecidableEq, Repr

/-- BUS_READ of word `w`: the most specific read row (R72, R77). `c` = w[3], `d` = w[1]. -/
def decodeRead (w : WordIdx) : Instr :=
  let c := Dir.ofBit (w.getLsbD 3)
  let d := Dir.ofBit (w.getLsbD 1)
  match w with
  | 0x00#6 | 0x08#6 => .rdChStatus c
  | 0x01#6 | 0x09#6 => .rdChCount c
  | 0x02#6 | 0x0A#6 => .rdChBufLo c
  | 0x03#6 | 0x0B#6 => .rdChBufHi c
  | 0x04#6 | 0x0C#6 => .rdChDlLo c
  | 0x05#6 | 0x0D#6 => .rdChDlHi c
  | 0x06#6 | 0x0E#6 => .rdChDecode c
  | 0x10#6 => .rdEvtFlags
  | 0x11#6 => .rdLockStatus
  | 0x14#6 | 0x16#6 => .rdCloseDlLo d
  | 0x15#6 | 0x17#6 => .rdCloseDlHi d
  | 0x18#6 | 0x1A#6 => .rdLastRelockLo d
  | 0x19#6 | 0x1B#6 => .rdLastRelockHi d
  | 0x1C#6 => .rdNowLo
  | 0x1D#6 => .rdNowHi
  | _ => .rdReserved w

/-- BUS_WRITE of `data` to word `w`: the most specific write row (R72, R75, R77, R78). -/
def decodeWrite (w : WordIdx) (data : Word) : Instr :=
  let c := Dir.ofBit (w.getLsbD 3)
  match w with
  | 0x07#6 | 0x0F#6 => if data.getLsbD 0 then .wrChReset c data else .wrChCtrlNop c data
  | 0x10#6 => .wrEvtFlags data
  | 0x12#6 => if data.extractLsb' 0 4 == 0x1#4 then .wrLockUnlock data else .wrLockCmdRsvd data
  | _ => .wrIgnored w data

/-- A pin edge (R73): the channel is ARG[1], the line ARG[0]. -/
def decodePin (a : BitVec 8) : Except Illegal Instr :=
  match a with
  | 0x00#8 | 0x02#8 => .ok (.pinD0Fall (Dir.ofBit (a.getLsbD 1)))
  | 0x01#8 | 0x03#8 => .ok (.pinD1Fall (Dir.ofBit (a.getLsbD 1)))
  | 0x10#8 => .ok .pinDoorEdge
  | _ => .error .pinId

/-- An internal step (R74). -/
def decodeInternal (a : BitVec 8) : Except Illegal Instr :=
  match a with
  | 0x00#8 => .ok .eval
  | 0x01#8 => .ok .seqAdvance
  | _ => .error .subStep

/-- The decode rule on the four fields of a word (R70 to R76): total, and an ILLEGAL word is rejected by name. -/
def decodeFields (cls rsv : BitVec 4) (a : BitVec 8) (data : Word) : Except Illegal Instr :=
  if rsv != 0#4 then .error .reservedBits
  else match cls with
    | 0x0#4 =>
      if a.extractLsb' 6 2 != 0#2 then .error .busArg
      else if data != 0#32 then .error .operandData
      else .ok (decodeRead (argIndex a))
    | 0x1#4 =>
      if a.extractLsb' 6 2 != 0#2 then .error .busArg
      else .ok (decodeWrite (argIndex a) data)
    | 0x2#4 => if data != 0#32 then .error .operandData else decodePin a
    | 0x3#4 =>
      if a != 0#8 then .error .sysArg else if data != 0#32 then .error .operandData else .ok .tick
    | 0x4#4 =>
      if a != 0#8 then .error .sysArg else if data != 0#32 then .error .operandData else .ok .reset
    | 0x8#4 => if data != 0#32 then .error .operandData else decodeInternal a
    | _ => .error .unknownClass

/-- The decoder (R70 to R76). -/
def decode (x : StimWord) : Except Illegal Instr :=
  decodeFields (wordClass x) (wordRsv x) (wordArg x) (wordData x)

/-! ### The encoder -/

/-- The word with the given CLASS, RSV, ARG in its top 16 bits and DATA below (R70). -/
def stimWord (head : BitVec 16) (data : Word) : StimWord := head ++ data

/-- `base` for entry, `base + step` for exit: how a row's match takes its `c` or `d` bit (R77). -/
def dirHead (base step : BitVec 16) (d : Dir) : BitVec 16 :=
  match d with
  | .entry => base
  | .exit => base + step

/-- The top 16 bits of a stimulus: its row's match with the `c`, `d` or `w` field filled in (R77). -/
def encodeHead : Instr → BitVec 16
  | .rdChStatus c => dirHead 0x0000#16 0x8#16 c
  | .rdChCount c => dirHead 0x0001#16 0x8#16 c
  | .rdChBufLo c => dirHead 0x0002#16 0x8#16 c
  | .rdChBufHi c => dirHead 0x0003#16 0x8#16 c
  | .rdChDlLo c => dirHead 0x0004#16 0x8#16 c
  | .rdChDlHi c => dirHead 0x0005#16 0x8#16 c
  | .rdChDecode c => dirHead 0x0006#16 0x8#16 c
  | .wrChReset c _ => dirHead 0x1007#16 0x8#16 c
  | .wrChCtrlNop c _ => dirHead 0x1007#16 0x8#16 c
  | .rdEvtFlags => 0x0010#16
  | .wrEvtFlags _ => 0x1010#16
  | .rdLockStatus => 0x0011#16
  | .wrLockUnlock _ => 0x1012#16
  | .wrLockCmdRsvd _ => 0x1012#16
  | .rdCloseDlLo d => dirHead 0x0014#16 0x2#16 d
  | .rdCloseDlHi d => dirHead 0x0015#16 0x2#16 d
  | .rdLastRelockLo d => dirHead 0x0018#16 0x2#16 d
  | .rdLastRelockHi d => dirHead 0x0019#16 0x2#16 d
  | .rdNowLo => 0x001C#16
  | .rdNowHi => 0x001D#16
  | .rdReserved w => 0x0000#16 ||| w.setWidth 16
  | .wrIgnored w _ => 0x1000#16 ||| w.setWidth 16
  | .pinD0Fall c => dirHead 0x2000#16 0x2#16 c
  | .pinD1Fall c => dirHead 0x2001#16 0x2#16 c
  | .pinDoorEdge => 0x2010#16
  | .tick => 0x3000#16
  | .reset => 0x4000#16
  | .eval => 0x8000#16
  | .seqAdvance => 0x8001#16

/-- DATA of a stimulus: the value written, or 0 (R70, R72). -/
def encodeData : Instr → Word
  | .wrChReset _ data | .wrChCtrlNop _ data | .wrEvtFlags data | .wrLockUnlock data | .wrLockCmdRsvd data => data
  | .wrIgnored _ data => data
  | .rdChStatus _ | .rdChCount _ | .rdChBufLo _ | .rdChBufHi _ | .rdChDlLo _ | .rdChDlHi _ | .rdChDecode _ => 0#32
  | .rdEvtFlags | .rdLockStatus | .rdNowLo | .rdNowHi | .rdReserved _ => 0#32
  | .rdCloseDlLo _ | .rdCloseDlHi _ | .rdLastRelockLo _ | .rdLastRelockHi _ => 0#32
  | .pinD0Fall _ | .pinD1Fall _ | .pinDoorEdge | .tick | .reset | .eval | .seqAdvance => 0#32

/-- The stimulus word of a stimulus (R70, R77). -/
def encode (i : Instr) : StimWord := stimWord (encodeHead i) (encodeData i)

/-! ### The opcode table (R77) and its decode rule (R75) -/

/-- The row's mnemonic, as the opcode table spells it. -/
def Instr.mnemonic : Instr → String
  | .rdChStatus _ => "RD_CH_STATUS"
  | .rdChCount _ => "RD_CH_COUNT"
  | .rdChBufLo _ => "RD_CH_BUF_LO"
  | .rdChBufHi _ => "RD_CH_BUF_HI"
  | .rdChDlLo _ => "RD_CH_DL_LO"
  | .rdChDlHi _ => "RD_CH_DL_HI"
  | .rdChDecode _ => "RD_CH_DECODE"
  | .wrChReset _ _ => "WR_CH_RESET"
  | .wrChCtrlNop _ _ => "WR_CH_CTRL_NOP"
  | .rdEvtFlags => "RD_EVT_FLAGS"
  | .wrEvtFlags _ => "WR_EVT_FLAGS"
  | .rdLockStatus => "RD_LOCK_STATUS"
  | .wrLockUnlock _ => "WR_LOCK_UNLOCK"
  | .wrLockCmdRsvd _ => "WR_LOCK_CMD_RSVD"
  | .rdCloseDlLo _ => "RD_CLOSE_DL_LO"
  | .rdCloseDlHi _ => "RD_CLOSE_DL_HI"
  | .rdLastRelockLo _ => "RD_LAST_RELOCK_LO"
  | .rdLastRelockHi _ => "RD_LAST_RELOCK_HI"
  | .rdNowLo => "RD_NOW_LO"
  | .rdNowHi => "RD_NOW_HI"
  | .rdReserved _ => "RD_RESERVED"
  | .wrIgnored _ _ => "WR_IGNORED"
  | .pinD0Fall _ => "PIN_D0_FALL"
  | .pinD1Fall _ => "PIN_D1_FALL"
  | .pinDoorEdge => "PIN_DOOR_EDGE"
  | .tick => "TICK"
  | .reset => "RESET"
  | .eval => "EVAL"
  | .seqAdvance => "SEQ_ADVANCE"

/-- A row of the opcode table. -/
structure OpRow where
  mnemonic : String
  pattern : StimWord
  mask : StimWord
  deriving DecidableEq, Repr

/-- The BUSR rows of R77. -/
def readRows : List OpRow :=
  [ ⟨"RD_CH_STATUS", 0x000000000000#48, 0xFFF7FFFFFFFF#48⟩,
    ⟨"RD_CH_COUNT", 0x000100000000#48, 0xFFF7FFFFFFFF#48⟩,
    ⟨"RD_CH_BUF_LO", 0x000200000000#48, 0xFFF7FFFFFFFF#48⟩,
    ⟨"RD_CH_BUF_HI", 0x000300000000#48, 0xFFF7FFFFFFFF#48⟩,
    ⟨"RD_CH_DL_LO", 0x000400000000#48, 0xFFF7FFFFFFFF#48⟩,
    ⟨"RD_CH_DL_HI", 0x000500000000#48, 0xFFF7FFFFFFFF#48⟩,
    ⟨"RD_CH_DECODE", 0x000600000000#48, 0xFFF7FFFFFFFF#48⟩,
    ⟨"RD_EVT_FLAGS", 0x001000000000#48, 0xFFFFFFFFFFFF#48⟩,
    ⟨"RD_LOCK_STATUS", 0x001100000000#48, 0xFFFFFFFFFFFF#48⟩,
    ⟨"RD_CLOSE_DL_LO", 0x001400000000#48, 0xFFFDFFFFFFFF#48⟩,
    ⟨"RD_CLOSE_DL_HI", 0x001500000000#48, 0xFFFDFFFFFFFF#48⟩,
    ⟨"RD_LAST_RELOCK_LO", 0x001800000000#48, 0xFFFDFFFFFFFF#48⟩,
    ⟨"RD_LAST_RELOCK_HI", 0x001900000000#48, 0xFFFDFFFFFFFF#48⟩,
    ⟨"RD_NOW_LO", 0x001C00000000#48, 0xFFFFFFFFFFFF#48⟩,
    ⟨"RD_NOW_HI", 0x001D00000000#48, 0xFFFFFFFFFFFF#48⟩,
    ⟨"RD_RESERVED", 0x000000000000#48, 0xFFC0FFFFFFFF#48⟩ ]

/-- The BUSW rows of R77. -/
def writeRows : List OpRow :=
  [ ⟨"WR_CH_RESET", 0x100700000001#48, 0xFFF700000001#48⟩,
    ⟨"WR_CH_CTRL_NOP", 0x100700000000#48, 0xFFF700000001#48⟩,
    ⟨"WR_EVT_FLAGS", 0x101000000000#48, 0xFFFF00000000#48⟩,
    ⟨"WR_LOCK_UNLOCK", 0x101200000001#48, 0xFFFF0000000F#48⟩,
    ⟨"WR_LOCK_CMD_RSVD", 0x101200000000#48, 0xFFFF00000000#48⟩,
    ⟨"WR_IGNORED", 0x100000000000#48, 0xFFC000000000#48⟩ ]

/-- The PIN, SYS and INT rows of R77. -/
def otherRows : List OpRow :=
  [ ⟨"PIN_D0_FALL", 0x200000000000#48, 0xFFFDFFFFFFFF#48⟩,
    ⟨"PIN_D1_FALL", 0x200100000000#48, 0xFFFDFFFFFFFF#48⟩,
    ⟨"PIN_DOOR_EDGE", 0x201000000000#48, 0xFFFFFFFFFFFF#48⟩,
    ⟨"TICK", 0x300000000000#48, 0xFFFFFFFFFFFF#48⟩,
    ⟨"RESET", 0x400000000000#48, 0xFFFFFFFFFFFF#48⟩,
    ⟨"EVAL", 0x800000000000#48, 0xFFFFFFFFFFFF#48⟩,
    ⟨"SEQ_ADVANCE", 0x800100000000#48, 0xFFFFFFFFFFFF#48⟩ ]

/-- The 29 rows of R77. -/
def opcodeTable : List OpRow := readRows ++ writeRows ++ otherRows

/-- "A word `x` matches an opcode-table row when `(x AND mask) = match`" (R75). -/
def OpRow.hits (r : OpRow) (x : StimWord) : Bool := (x &&& r.mask) == r.pattern

/-- How many mask bits are 1 (R75). -/
def OpRow.specificity (r : OpRow) : Nat := (List.range 48).countP fun k => r.mask.getLsbD k

/-- The matching rows of a word. -/
def matchingRows (x : StimWord) : List OpRow := opcodeTable.filter fun r => r.hits x

/-- "The word decodes to the matching row whose mask has the most 1 bits" (R75): the first such row of a list. -/
def mostSpecific : List OpRow → Option OpRow
  | [] => none
  | r :: rs =>
    match mostSpecific rs with
    | none => some r
    | some best => if best.specificity ≤ r.specificity then some r else some best

/-! ### What the host asks -/

/-- The instruction this decoder reads from an instruction whose bits are `w`, numbered as the opcode table numbers them:
the table's one 48-bit word is the stimulus word itself (R70, R79), so the bits above `nbits` are 0 and there is no byte
order to choose (R52). A number that does not fit 48 bits is no stimulus word. Log entry 18. -/
def decodeTableWord (nbits w : Nat) : Option Instr :=
  if w % 2 ^ nbits < 2 ^ 48 then (decode (BitVec.ofNat 48 (w % 2 ^ nbits))).toOption else none

end Sys2Proof
end

