-- ==== Sys2Proof/Machine/Operands.lean ====
section
/-! DEFINITION. Operand assembly: the write-data fields of R78 (tables in R26, R27 and R29) and the agent that issues a
stimulus (R71). The word-index, channel and pin operands of R72 to R74 are assembled by the decoder. -/

namespace Sys2Proof.Machine

/-- DIR of a LOCK_CMD write: DATA[8], 0 = entry, 1 = exit (R29). -/
def lockCmdDir (data : Word) : Dir := Dir.ofBit (data.getLsbD 8)

/-- CMD of a LOCK_CMD write: DATA[3:0] (R29). -/
def lockCmdCode (data : Word) : BitVec 4 := data.extractLsb' 0 4

/-- A bit of the W1C mask of an EVT_FLAGS write, DATA[9:3] (R27, R78): bit 3 is BAD_CMD. -/
def w1cBad (data : Word) : Bool := data.getLsbD 3

/-- LOCKED_OPEN_x: DATA[4] for entry, DATA[5] for exit (R27). -/
def w1cLockedOpen (data : Word) : Dir → Bool
  | .entry => data.getLsbD 4
  | .exit => data.getLsbD 5

/-- RELOCK_x: DATA[6] for entry, DATA[7] for exit (R27). -/
def w1cRelock (data : Word) : Dir → Bool
  | .entry => data.getLsbD 6
  | .exit => data.getLsbD 7

/-- REJECT_x: DATA[8] for entry, DATA[9] for exit (R27). -/
def w1cReject (data : Word) : Dir → Bool
  | .entry => data.getLsbD 8
  | .exit => data.getLsbD 9

/-- BUS_READ or BUS_WRITE, classes 0 and 1: an access of the host (R51, R71). -/
def isBusAccess : Instr → Bool
  | .rdChStatus _ | .rdChCount _ | .rdChBufLo _ | .rdChBufHi _ | .rdChDlLo _ | .rdChDlHi _ | .rdChDecode _ => true
  | .wrChReset _ _ | .wrChCtrlNop _ _ => true
  | .rdEvtFlags | .wrEvtFlags _ => true
  | .rdLockStatus | .wrLockUnlock _ | .wrLockCmdRsvd _ => true
  | .rdCloseDlLo _ | .rdCloseDlHi _ | .rdLastRelockLo _ | .rdLastRelockHi _ => true
  | .rdNowLo | .rdNowHi | .rdReserved _ | .wrIgnored _ _ => true
  | .pinD0Fall _ | .pinD1Fall _ | .pinDoorEdge => false
  | .tick | .reset | .eval | .seqAdvance => false

end Sys2Proof.Machine
end

