-- ==== Sys2Proof/Config.lean ====
section
/-! DEFINITION. The parameters a model takes (R5) and the values the spec leaves open. State carries a `Config`, so a claim about
every state is a claim about every configuration. `Config.implementation` is the one the machine has at power-on: R5's four
values, and for each OPEN parameter a constant without a body, within R5's range. DESIGN CHOICE, log entries 1, 2 and 19. -/

namespace Sys2Proof

/-- The named parameters of R5 and `CFCL_BASE` (R57). Durations are integer counts of ms. -/
structure Config where
  /-- `T_BIT`, inter-bit timeout. -/
  tBit : Nat
  /-- `DOOR_TIMEOUT`, close deadline after an unlock. -/
  doorTimeout : Nat
  /-- `DOOR_SWING_TIMEOUT`, swing extension. -/
  doorSwingTimeout : Nat
  /-- `OBSTRUCTION_WINDOW`, locked-open detection. -/
  obstructionWindow : Nat
  /-- `LOCKED_OPEN_TIMEOUT`, close deadline after a locked-open recovery. -/
  lockedOpenTimeout : Nat
  /-- `POLL_DELAY`, reduced polling. -/
  pollDelay : Nat
  /-- `T_DRIVE_OPEN`. -/
  tDriveOpen : Nat
  /-- `T_DRIVE_CLOSE`. -/
  tDriveClose : Nat
  /-- `T_HOLD_OPEN`, 0 for no hold phase. -/
  tHoldOpen : Nat
  /-- `T_HOLD_CLOSE`, 0 for no hold phase. -/
  tHoldClose : Nat
  /-- `SENSOR_OPEN_LEVEL`. -/
  sensorOpenLevel : Bool
  /-- `CFCL_BASE`, where the host maps the register window (R57). No step reads it. -/
  cfclBase : Nat
  deriving DecidableEq, Repr

/-- The names of the parameters that have a range (R5), as a BadConfig refusal records them (R211). -/
inductive Param where
  | tBit | doorTimeout | doorSwingTimeout | obstructionWindow | lockedOpenTimeout | pollDelay
  | tDriveOpen | tDriveClose | tHoldOpen | tHoldClose
  deriving DecidableEq, Repr

/-- `T_BIT` − 1: OPEN, 1 ≤ `T_BIT` ≤ 2^32−1 (R5, N1). -/
opaque Config.openTBit : Fin 4294967295
/-- `POLL_DELAY` − 1: OPEN, 1 ≤ `POLL_DELAY` ≤ 2^32−1 (R5, N4). -/
opaque Config.openPollDelay : Fin 4294967295
/-- `T_DRIVE_OPEN` − 1: OPEN, at least 1 and at most 2^32−1 (R5, N3). -/
opaque Config.openTDriveOpen : Fin 4294967295
/-- `T_DRIVE_CLOSE` − 1: OPEN, at least 1 and at most 2^32−1 (R5, N3). -/
opaque Config.openTDriveClose : Fin 4294967295
/-- `T_HOLD_OPEN`: OPEN, at least 0 and at most 2^32−1 (R5, N3). -/
opaque Config.openTHoldOpen : Fin 4294967296
/-- `T_HOLD_CLOSE`: OPEN, at least 0 and at most 2^32−1 (R5, N3). -/
opaque Config.openTHoldClose : Fin 4294967296
/-- `SENSOR_OPEN_LEVEL`: OPEN, 0 or 1 (R5, N5). -/
opaque Config.openSensorLevel : Bool
/-- `CFCL_BASE`: the host's choice (R57, I14). -/
opaque Config.openBase : Nat
/-- The door-sensor level at power-on: "any value" (R36, R241, I12). DESIGN CHOICE, log entry 4. -/
opaque Config.doorAtPowerOn : Bool

/-- The configuration at power-on: the values R5 gives, and a free value for each OPEN parameter. -/
def Config.implementation : Config where
  tBit := Config.openTBit.val + 1
  doorTimeout := 60000
  doorSwingTimeout := 3000
  obstructionWindow := 2000
  lockedOpenTimeout := 3000
  pollDelay := Config.openPollDelay.val + 1
  tDriveOpen := Config.openTDriveOpen.val + 1
  tDriveClose := Config.openTDriveClose.val + 1
  tHoldOpen := Config.openTHoldOpen.val
  tHoldClose := Config.openTHoldClose.val
  sensorOpenLevel := Config.openSensorLevel
  cfclBase := Config.openBase

end Sys2Proof
end

