-- ==== Sys2Proof/Machine/State.lean ====
section
/-! DEFINITION. The state of CFCL (10_state.md): every field of R12 to R33, the configuration (R5), what waits on a hold (R8,
R212), and the model's own fields: the value a bus read returned and the turns still to come. Plain data throughout.
`open` and `end` are Lean keywords, so `lk[d].open` is `isOpen` and `seq.end` is `endAt`. -/

namespace Sys2Proof.Machine

/-- Two instances, entry (0) and exit (1) (R1, R5). -/
structure PerDir (α : Type) where
  entry : α
  exit : α
  deriving DecidableEq, Repr

/-- The instance of one channel or direction. -/
def PerDir.get {α : Type} (p : PerDir α) : Dir → α
  | .entry => p.entry
  | .exit => p.exit

/-- Replace the instance of one channel or direction. -/
def PerDir.set {α : Type} (p : PerDir α) (d : Dir) (x : α) : PerDir α :=
  match d with
  | .entry => { p with entry := x }
  | .exit => { p with exit := x }

/-- The capture state of a channel (R12). -/
structure Capture where
  /-- the bit buffer -/
  buf : BitBuffer
  /-- the bit count -/
  cnt : BitCount
  /-- 1 when the deadline is set -/
  dlv : Bool
  /-- the deadline instant, 0 whenever `dlv` = 0 -/
  dl : Time
  deriving DecidableEq, Repr

/-- The lock state of a direction (R15, R17, R18). -/
structure Lock where
  /-- `open` -/
  isOpen : Bool
  /-- locked-open -/
  lo : Bool
  /-- the close deadline is set -/
  cdv : Bool
  /-- the close deadline -/
  cd : Time
  /-- a re-lock has been recorded -/
  luv : Bool
  /-- the time of the last re-lock -/
  lu : Time
  deriving DecidableEq, Repr

/-- `seq.phase` (R19): code 3 is unreachable and has no constructor. Log entry 15. -/
inductive Phase where
  | idle
  | drive
  | hold
  deriving DecidableEq, Repr

/-- `seq.kind` (R19, R144): code 3 is unreachable and has no constructor. Log entry 15. -/
inductive Kind where
  | unlockPermit
  | unlockLockedOpen
  | relock
  deriving DecidableEq, Repr

/-- The pulse sequencer (R19). -/
structure Sequencer where
  phase : Phase
  dir : Dir
  kind : Kind
  /-- the instant at which the current phase may end, 0 when IDLE -/
  endAt : Time
  deriving DecidableEq, Repr

/-- What a model refusal records (R211): code, name and the column "recorded". -/
inductive RefusalRecord where
  /-- code 1, IllegalStimulus: the 48-bit word. -/
  | illegalStimulus (word : StimWord)
  /-- code 2, TimeOverflow: `now`. -/
  | timeOverflow (now : Time)
  /-- code 3, BadConfig: the parameter name. -/
  | badConfig (name : Param)
  deriving DecidableEq, Repr

/-- The stimuli that R212 lists as held, by what they wait for. -/
inductive HeldKind where
  /-- the stalled host bus: WR_LOCK_UNLOCK, and the host accesses behind it (R247) -/
  | bus
  | tick
  | eval
  | seqAdvance
  deriving DecidableEq, Repr

/-- The stimuli that wait on a hold (R8 "The stimulus waits", R212). Log entries 6 and 8. -/
structure Waiting where
  /-- host accesses on the stalled bus, oldest first -/
  bus : List Instr
  ticks : Nat
  evals : Nat
  seqAdvances : Nat
  deriving DecidableEq, Repr

/-- One turn of the total order of R55: a stimulus word arrives, or a waiting stimulus gets the chance to take its step
(I16). Log entries 5 and 7. -/
inductive Turn where
  | arrive (word : StimWord)
  | retry (kind : HeldKind)
  deriving DecidableEq, Repr

/-- The machine. -/
structure State where
  /-- capture state of each channel (R12) -/
  ch : PerDir Capture
  /-- lock state of each direction (R15 to R18) -/
  lk : PerDir Lock
  /-- the pulse sequencer (R19) -/
  seq : Sequencer
  /-- the door-sensor level, environment state that the block samples (R21) -/
  door : Bool
  /-- the door-triggered flag (R22) -/
  doorTrig : Bool
  /-- BAD_CMD (R27) -/
  evtBad : Bool
  /-- LOCKED_OPEN_x (R27) -/
  evtLO : PerDir Bool
  /-- RELOCK_x (R27) -/
  evtRL : PerDir Bool
  /-- REJECT_x (R27) -/
  evtRJ : PerDir Bool
  /-- the instant before which EVAL may not run (R23) -/
  evalHold : Time
  /-- the millisecond timebase (R30) -/
  now : Time
  /-- the sticky mark of a model refusal (R33) -/
  refused : Bool
  /-- what the refusals recorded (R211), oldest first -/
  refusals : List RefusalRecord
  /-- the stimuli that wait on a hold (R8, R212) -/
  waiting : Waiting
  /-- the value the last completed bus read returned. The model's own field, log entry 11 -/
  busOut : Option Word
  /-- the turns still to come. The model's own field, log entry 5 -/
  schedule : List Turn
  /-- the parameters (R5) -/
  cfg : Config
  deriving DecidableEq, Repr

/-- "The block has no other fault state" (R33); "`fault`: No entry uses it, because the block has no fault state"
(93_implementation_defined.md). So no constructor: nothing raises a fault. Log entry 20. -/
inductive Fault where
  deriving DecidableEq, Repr

/-- Why a step has no meaning in this model. -/
inductive Refusal where
  /-- Raised by an arm of exec that has no meaning yet (none has). Safe: the run stops. The refusals of R211 are not of this
  type: they set the sticky mark and the run goes on (log entry 12). -/
  | notModelled (mnemonic : String)
  deriving DecidableEq, Repr

/-- EMPTY (R14). -/
def Capture.empty : Capture where
  buf := 0#64
  cnt := 0#8
  dlv := false
  dl := 0#64

/-- `Locked`, no close deadline, no recorded re-lock (R36). -/
def Lock.initial : Lock where
  isOpen := false
  lo := false
  cdv := false
  cd := 0#64
  luv := false
  lu := 0#64

/-- The state at power-on: the table of R36, with `refused` = 0 (R241), `door` any level (I12), nothing refused, waiting,
returned or scheduled, and the implementation's parameters (R5). Log entries 1, 4, 11 and 13. -/
def State.reset : State where
  ch := { entry := Capture.empty, exit := Capture.empty }
  lk := { entry := Lock.initial, exit := Lock.initial }
  seq := { phase := .idle, dir := .entry, kind := .unlockPermit, endAt := 0#64 }
  door := Config.doorAtPowerOn
  doorTrig := false
  evtBad := false
  evtLO := { entry := false, exit := false }
  evtRL := { entry := false, exit := false }
  evtRJ := { entry := false, exit := false }
  evalHold := 0#64
  now := 0#64
  refused := false
  refusals := []
  waiting := { bus := [], ticks := 0, evals := 0, seqAdvances := 0 }
  busOut := none
  schedule := []
  cfg := Config.implementation

end Sys2Proof.Machine
end

