-- ==== Sys2Proof/Machine/Flags.lean ====
section
/-! DEFINITION. Every view and flag computation: deadlines, READY, the frame decoder, the actuator levels, and the words of
CH_STATUS, CH_DECODE, EVT_FLAGS and LOCK_STATUS (R20, R21, R25 to R28, R104, R105). The block has no condition codes (R34). -/

namespace Sys2Proof.Machine

/-- The other direction, `opp(d)` = 1 − d (R8). -/
def opp : Dir → Dir
  | .entry => .exit
  | .exit => .entry

/-- One bit as a word field. -/
def bit1 (b : Bool) : BitVec 1 := BitVec.ofBool b

/-- Bits 31:0 of a 64-bit quantity (R52). -/
def loWord (v : BitVec 64) : Word := v.extractLsb' 0 32

/-- Bits 63:32 of a 64-bit quantity (R52). -/
def hiWord (v : BitVec 64) : Word := v.extractLsb' 32 32

/-- `expired(v, t)`: "a deadline "has passed" only when `now` is strictly later than it" (R9). -/
def expired (now : Time) (valid : Bool) (t : Time) : Bool := valid && t.ult now

/-- `ready(c)` (R104). -/
def ready (s : State) (c : Dir) : Bool := expired s.now (s.ch.get c).dlv (s.ch.get c).dl

/-- LEN_OK: the count is `FRAME_W` = 26 (R25). -/
def lenOk (s : State) (c : Dir) : Bool := (s.ch.get c).cnt == 26#8

/-- A decoded frame: facility (8 bits) and card (16 bits) (R105). -/
structure Frame where
  facility : BitVec 8
  card : BitVec 16
  deriving DecidableEq, Repr

/-- `decode(cnt, buf)` (R105): `none` is Unsupported. -/
def decodeFrame (cnt : BitCount) (buf : BitBuffer) : Option Frame :=
  if cnt == 26#8 then some { facility := buf.extractLsb' 17 8, card := buf.extractLsb' 1 16 } else none

/-- `sensorOpen` (R21). -/
def sensorOpen (s : State) : Bool := s.door == s.cfg.sensorOpenLevel

/-- `interlockOK(d)` (R145): the opposite lock is not open. -/
def interlockOk (s : State) (d : Dir) : Bool := !(s.lk.get (opp d)).isOpen

/-- The code of `seq.phase` (R19). -/
def phaseCode : Phase → BitVec 2
  | .idle => 0#2
  | .drive => 1#2
  | .hold => 2#2

/-- The code of `seq.kind` (R19). -/
def kindCode : Kind → BitVec 2
  | .unlockPermit => 0#2
  | .unlockLockedOpen => 1#2
  | .relock => 2#2

/-- The levels of an actuator output (R20). -/
inductive ActLevel where
  | off
  | driveOpen
  | driveClosed
  | hold
  deriving DecidableEq, Repr

/-- The code of an actuator level (R20). -/
def actCode : ActLevel → BitVec 2
  | .off => 0#2
  | .driveOpen => 1#2
  | .driveClosed => 2#2
  | .hold => 3#2

/-- The drive level of a sequence kind (R144). -/
def driveLevel : Kind → ActLevel
  | .unlockPermit => .driveOpen
  | .unlockLockedOpen => .driveOpen
  | .relock => .driveClosed

/-- `act[d]` (R20), a function of the sequencer. -/
def act (s : State) (d : Dir) : ActLevel :=
  if s.seq.dir = d then
    match s.seq.phase with
    | .idle => .off
    | .drive => driveLevel s.seq.kind
    | .hold => .hold
  else .off

/-- SEQ_BUSY: a sequence runs (R28). -/
def seqBusy (s : State) : Bool := s.seq.phase != .idle

/-- EVAL_HELD: `now` is before `evalHold` (R28). -/
def evalHeldView (s : State) : Bool := s.now.ult s.evalHold

/-- The word of CH_STATUS(c) (R25, R108). -/
def chStatusWord (s : State) (c : Dir) : Word :=
  (bit1 (lenOk s c) ++ bit1 (ready s c) ++ bit1 (s.ch.get c).dlv).setWidth 32

/-- The word of CH_COUNT(c) (R25, R109). -/
def chCountWord (s : State) (c : Dir) : Word := (s.ch.get c).cnt.setWidth 32

/-- The word of CH_DECODE(c) (R26, R114): VALID, seven zeros, facility, card; 0 when Unsupported. -/
def chDecodeWord (s : State) (c : Dir) : Word :=
  match decodeFrame (s.ch.get c).cnt (s.ch.get c).buf with
  | some f => 1#1 ++ 0#7 ++ f.facility ++ f.card
  | none => 0#32

/-- The word of EVT_FLAGS (R27, R195). -/
def evtFlagsWord (s : State) : Word :=
  (bit1 s.evtRJ.exit ++ bit1 s.evtRJ.entry ++ bit1 s.evtRL.exit ++ bit1 s.evtRL.entry ++ bit1 s.evtLO.exit
    ++ bit1 s.evtLO.entry ++ bit1 s.evtBad ++ bit1 s.doorTrig ++ bit1 (ready s .exit)
    ++ bit1 (ready s .entry)).setWidth 32

/-- The word of LOCK_STATUS (R28, R164). -/
def lockStatusWord (s : State) : Word :=
  (bit1 s.lk.exit.luv ++ bit1 s.lk.entry.luv ++ bit1 s.lk.exit.cdv ++ bit1 s.lk.entry.cdv
    ++ kindCode s.seq.kind ++ actCode (act s .exit) ++ actCode (act s .entry) ++ phaseCode s.seq.phase
    ++ bit1 (evalHeldView s) ++ bit1 s.seq.dir.bit ++ bit1 (seqBusy s)
    ++ bit1 (sensorOpen s) ++ bit1 s.lk.exit.lo ++ bit1 s.lk.exit.isOpen ++ bit1 s.lk.entry.lo
    ++ bit1 s.lk.entry.isOpen).setWidth 32

/-- The three states of a capture channel (R14). -/
inductive CapturePhase where
  | empty
  | receiving
  | ready
  deriving DecidableEq, Repr

/-- The state of the capture state machine of channel `c` (R14): EMPTY without a deadline, READY once it has passed. A channel
without a deadline and with a count other than 0, which R13 (i) makes unreachable, has none of R14's states; the model calls
it EMPTY. DESIGN CHOICE, log entry 27. -/
def capturePhase (s : State) (c : Dir) : CapturePhase :=
  if (s.ch.get c).dlv then (if (s.ch.get c).dl.ult s.now then .ready else .receiving) else .empty

/-- The source's three lock states (R15). -/
inductive LockMode where
  | locked
  | unlocked
  | lockedOpen
  deriving DecidableEq, Repr

/-- The lock state that `open` and `lo` encode (R15); 0 and 1 is unreachable and encodes none. -/
def lockMode (l : Lock) : Option LockMode :=
  match l.isOpen, l.lo with
  | false, false => some .locked
  | true, false => some .unlocked
  | true, true => some .lockedOpen
  | false, true => none

end Sys2Proof.Machine
end

