-- ==== Sys2Proof/Machine/Ops.lean ====
section
/-! DEFINITION. The named operations every meaning is built from: field updates, the bus return, the three outcomes of R8
that are not values (hold, refusal, no effect), the bit append (R101), the sequencer (R144 to R156) and the evaluation
(R157 to R163). The block takes no exceptions (R210, R217): `raiseRefused` and the `hold…` operations stand in their place. -/

namespace Sys2Proof.Machine

/-! ### Field updates -/

/-- Replace the capture state of channel `c`. -/
def State.setCh (s : State) (c : Dir) (x : Capture) : State := { s with ch := s.ch.set c x }

/-- Replace the lock state of direction `d`. -/
def State.setLk (s : State) (d : Dir) (x : Lock) : State := { s with lk := s.lk.set d x }

/-- Replace the sequencer state. -/
def State.setSeq (s : State) (q : Sequencer) : State := { s with seq := q }

/-- A bus read returns `v` to the host (R8 `MemRead`): the block's state stays as it is (R56). Log entry 11. -/
def State.busReturn (s : State) (v : Word) : State := { s with busOut := some v }

/-- `now + T` (R9, R101). It cannot overflow while `now` is at most 2^63 (R190). -/
def State.after (s : State) (ms : Nat) : Time := s.now + BitVec.ofNat 64 ms

/-! ### Refusals and holds (R8, R211, R212) -/

/-- `raise Refused(reason)`: set the sticky mark, record the reason, change nothing else (R33, R211). Log entry 12. -/
def State.raiseRefused (s : State) (r : RefusalRecord) : State :=
  { s with refused := true, refusals := s.refusals ++ [r] }

/-- A refusal's code (R211). -/
def refusalCode : RefusalRecord → Nat
  | .illegalStimulus _ => 1
  | .timeOverflow _ => 2
  | .badConfig _ => 3

/-- A host access waits on the stalled bus, behind those already there (R59 (b), R247). -/
def State.holdBus (s : State) (i : Instr) : State :=
  { s with waiting := { s.waiting with bus := s.waiting.bus ++ [i] } }

/-- A TICK waits (R212). -/
def State.holdTick (s : State) : State :=
  { s with waiting := { s.waiting with ticks := s.waiting.ticks + 1 } }

/-- An EVAL waits (R212). -/
def State.holdEval (s : State) : State :=
  { s with waiting := { s.waiting with evals := s.waiting.evals + 1 } }

/-- A SEQ_ADVANCE waits (R212). -/
def State.holdSeqAdvance (s : State) : State :=
  { s with waiting := { s.waiting with seqAdvances := s.waiting.seqAdvances + 1 } }

/-! ### Capture (R101, R106) -/

/-- `append(c, b)` (R101): one atomic update of channel `c`. -/
def State.append (s : State) (c : Dir) (b : Bool) : State :=
  s.setCh c
    { buf := BitVec.concat ((s.ch.get c).buf.extractLsb' 0 63) b
      cnt := if (s.ch.get c).cnt == 255#8 then 255#8 else (s.ch.get c).cnt + 1#8
      dlv := true
      dl := s.after s.cfg.tBit }

/-- The channel reset (R106): all four fields in one step. -/
def State.emptyChannel (s : State) (c : Dir) : State := s.setCh c Capture.empty

/-! ### The pulse sequencer (R144, R150 to R156) -/

/-- `Tdrive(k)` (R144). -/
def driveTime (g : Config) : Kind → Nat
  | .unlockPermit => g.tDriveOpen
  | .unlockLockedOpen => g.tDriveOpen
  | .relock => g.tDriveClose

/-- `Thold(k)` (R144). -/
def holdTime (g : Config) : Kind → Nat
  | .unlockPermit => g.tHoldOpen
  | .unlockLockedOpen => g.tHoldOpen
  | .relock => g.tHoldClose

/-- `start(k, d)` (R150). -/
def State.startSeq (s : State) (k : Kind) (d : Dir) : State :=
  s.setSeq { phase := .drive, dir := d, kind := k, endAt := s.after (driveTime s.cfg k) }

/-- Commit of UNLOCK_PERMIT (R154): `Unlocked`, close deadline `now + DOOR_TIMEOUT`. -/
def State.commitUnlockPermit (s : State) (d : Dir) : State :=
  s.setLk d { s.lk.get d with isOpen := true, lo := false, cdv := true, cd := s.after s.cfg.doorTimeout }

/-- Commit of UNLOCK_LOCKEDOPEN (R155): `LockedOpen`, close deadline `now + LOCKED_OPEN_TIMEOUT`, flag. -/
def State.commitUnlockLockedOpen (s : State) (d : Dir) : State :=
  let t := s.setLk d { s.lk.get d with isOpen := true, lo := true, cdv := true, cd := s.after s.cfg.lockedOpenTimeout }
  { t with evtLO := t.evtLO.set d true }

/-- Commit of RELOCK (R156): `Locked`, both bits cleared, close deadline cleared, flag; the time of the re-lock is recorded
only if the direction was not `LockedOpen`. -/
def State.commitRelock (s : State) (d : Dir) : State :=
  let l := s.lk.get d
  let t := s.setLk d
    { isOpen := false
      lo := false
      cdv := false
      cd := 0#64
      luv := if l.lo then l.luv else true
      lu := if l.lo then l.lu else s.now }
  { t with evtRL := t.evtRL.set d true }

/-- `commit(k, d)` (R153). -/
def State.commit (s : State) (k : Kind) (d : Dir) : State :=
  match k with
  | .unlockPermit => s.commitUnlockPermit d
  | .unlockLockedOpen => s.commitUnlockLockedOpen d
  | .relock => s.commitRelock d

/-- `iterationEnd()` (R163): the reduced polling rate while a direction is `LockedOpen`. -/
def State.iterationEnd (s : State) : State :=
  if s.lk.entry.lo || s.lk.exit.lo then { s with evalHold := s.after s.cfg.pollDelay } else s

/-- SEQ_ADVANCE is not enabled: IDLE, or before `seq.end` (R151, R212). -/
def seqAdvanceHeld (s : State) : Bool := s.seq.phase == .idle || s.now.ult s.seq.endAt

/-- The effect of an enabled SEQ_ADVANCE (R151). -/
def State.advanceSeq (s : State) : State :=
  if s.seq.phase == .drive && decide (0 < holdTime s.cfg s.seq.kind) then
    s.setSeq { s.seq with phase := .hold, endAt := s.after (holdTime s.cfg s.seq.kind) }
  else
    let t := s.commit s.seq.kind s.seq.dir
    (t.setSeq { t.seq with phase := .idle, endAt := 0#64 }).iterationEnd

/-! ### The unlock request (R146) -/

/-- An unlock request is not enabled while a sequence runs (R146, R212). -/
def unlockHeld (s : State) : Bool := seqBusy s

/-- The effect of an enabled unlock request for `d`: a sequence, or REJECT_x by the interlock (R146). -/
def State.requestUnlock (s : State) (d : Dir) : State :=
  if interlockOk s d then s.startSeq .unlockPermit d else { s with evtRJ := s.evtRJ.set d true }

/-! ### The evaluation step (R157 to R163) -/

/-- `enabledEVAL` is false: a sequence runs, or `now` is before `evalHold` (R157, R212). -/
def evalHeld (s : State) : Bool := seqBusy s || s.now.ult s.evalHold

/-- Swing of one lock (R158): an `Unlocked` direction's close deadline is raised, never lowered. -/
def swingLock (t : Time) (l : Lock) : Lock :=
  if l.isOpen && !l.lo then { l with cd := if l.cd.ult t then t else l.cd } else l

/-- `swing()` (R158). -/
def State.swing (s : State) : State :=
  if s.doorTrig then
    { s with
      lk := { entry := swingLock (s.after s.cfg.doorSwingTimeout) s.lk.entry
              exit := swingLock (s.after s.cfg.doorSwingTimeout) s.lk.exit }
      doorTrig := false }
  else s

/-- `lockedOpenCand(d)` with the sensor sample `smp` (R159). -/
def lockedOpenCand (s : State) (smp : Bool) (d : Dir) : Bool :=
  !(s.lk.get d).isOpen && (s.lk.get d).luv && smp
    && (s.now - (s.lk.get d).lu).ult (BitVec.ofNat 64 s.cfg.obstructionWindow) && interlockOk s d

/-- `relockCand(d)` with the sensor sample `smp` (R160). -/
def relockCand (s : State) (smp : Bool) (d : Dir) : Bool :=
  (s.lk.get d).isOpen && !smp && expired s.now (s.lk.get d).cdv (s.lk.get d).cd

/-- The sequence an evaluation starts: the first true entry of R161's list. -/
def evalChoice (s : State) (smp : Bool) : Option (Kind × Dir) :=
  if lockedOpenCand s smp .entry then some (.unlockLockedOpen, .entry)
  else if lockedOpenCand s smp .exit then some (.unlockLockedOpen, .exit)
  else if relockCand s smp .entry then some (.relock, .entry)
  else if relockCand s smp .exit then some (.relock, .exit)
  else none

/-- The action part of EVAL, after swing (R161, R162). -/
def State.evalAct (s : State) (smp : Bool) : State :=
  match evalChoice s smp with
  | some (k, d) => s.startSeq k d
  | none => s.iterationEnd

/-- The effect of an enabled EVAL (R162): sample the sensor (R142), swing, then at most one sequence. -/
def State.evaluate (s : State) : State := s.swing.evalAct (sensorOpen s)

/-- `productiveEVAL` (R157). -/
def evalProductive (s : State) : Bool :=
  !evalHeld s && (s.doorTrig || s.lk.entry.lo || s.lk.exit.lo
    || lockedOpenCand s (sensorOpen s) .entry || lockedOpenCand s (sensorOpen s) .exit
    || relockCand s (sensorOpen s) .entry || relockCand s (sensorOpen s) .exit)

/-! ### The timebase (R190, R191) -/

/-- `internalPending` (R191): SEQ_ADVANCE is enabled, or EVAL is productive. -/
def internalPending (s : State) : Bool := !seqAdvanceHeld s || evalProductive s

/-- `now ≥u 2^63`: TICK is refused (R190). -/
def timeOver (s : State) : Bool := (0x8000000000000000#64).ule s.now

/-- TICK waits: not refused, and an internal step is pending (R190, R212). -/
def tickHeld (s : State) : Bool := !timeOver s && internalPending s

/-! ### Event flags and reset (R196, R240) -/

/-- The W1C write of EVT_FLAGS (R196). -/
def State.clearFlags (s : State) (data : Word) : State :=
  { s with
    evtBad := s.evtBad && !w1cBad data
    evtLO := { entry := s.evtLO.entry && !w1cLockedOpen data .entry, exit := s.evtLO.exit && !w1cLockedOpen data .exit }
    evtRL := { entry := s.evtRL.entry && !w1cRelock data .entry, exit := s.evtRL.exit && !w1cRelock data .exit }
    evtRJ := { entry := s.evtRJ.entry && !w1cReject data .entry, exit := s.evtRJ.exit && !w1cReject data .exit } }

/-- RESET (R240): every field to its value of R36; `door` and `refused` are not written, and what waits stays waiting
(R240, D34). Log entries 9 and 10. -/
def State.blockReset (s : State) : State :=
  { s with
    ch := { entry := Capture.empty, exit := Capture.empty }
    lk := { entry := Lock.initial, exit := Lock.initial }
    seq := { phase := .idle, dir := .entry, kind := .unlockPermit, endAt := 0#64 }
    doorTrig := false
    evtBad := false
    evtLO := { entry := false, exit := false }
    evtRL := { entry := false, exit := false }
    evtRJ := { entry := false, exit := false }
    evalHold := 0#64
    now := 0#64 }

end Sys2Proof.Machine
end

