-- ==== Sys2Proof/Machine/Capture.lean ====
section
/-! DEFINITION. The capture family (40_capture.md): bit edges, channel control, channel reads. None is ever held or refused. -/

namespace Sys2Proof.Machine

/-- PIN_D0_FALL (R102): `append(c, 0)`. -/
def execPinD0Fall (c : Dir) (s : State) : Host.Outcome State Fault Refusal := .next (s.append c false)

/-- PIN_D1_FALL (R103): `append(c, 1)`. -/
def execPinD1Fall (c : Dir) (s : State) : Host.Outcome State Fault Refusal := .next (s.append c true)

/-- WR_CH_RESET (R106): channel `c` to EMPTY; DATA[31:1] are ignored. -/
def execWrChReset (c : Dir) (s : State) : Host.Outcome State Fault Refusal := .next (s.emptyChannel c)

/-- WR_CH_CTRL_NOP (R107): no effect. -/
def execWrChCtrlNop (s : State) : Host.Outcome State Fault Refusal := .next s

/-- RD_CH_STATUS (R108). -/
def execRdChStatus (c : Dir) (s : State) : Host.Outcome State Fault Refusal := .next (s.busReturn (chStatusWord s c))

/-- RD_CH_COUNT (R109). -/
def execRdChCount (c : Dir) (s : State) : Host.Outcome State Fault Refusal := .next (s.busReturn (chCountWord s c))

/-- RD_CH_BUF_LO (R110). -/
def execRdChBufLo (c : Dir) (s : State) : Host.Outcome State Fault Refusal := .next (s.busReturn (loWord (s.ch.get c).buf))

/-- RD_CH_BUF_HI (R111). -/
def execRdChBufHi (c : Dir) (s : State) : Host.Outcome State Fault Refusal := .next (s.busReturn (hiWord (s.ch.get c).buf))

/-- RD_CH_DL_LO (R112). -/
def execRdChDlLo (c : Dir) (s : State) : Host.Outcome State Fault Refusal := .next (s.busReturn (loWord (s.ch.get c).dl))

/-- RD_CH_DL_HI (R113). -/
def execRdChDlHi (c : Dir) (s : State) : Host.Outcome State Fault Refusal := .next (s.busReturn (hiWord (s.ch.get c).dl))

/-- RD_CH_DECODE (R114): count and buffer of the same instant. -/
def execRdChDecode (c : Dir) (s : State) : Host.Outcome State Fault Refusal := .next (s.busReturn (chDecodeWord s c))

end Sys2Proof.Machine
end

