-- ==== Sys2Proof/Machine/LockDriver.lean ====
section
/-! DEFINITION. The lock-driver family (41_lock_driver.md): door edge, lock commands, sequencer step, evaluation, lock reads. -/

namespace Sys2Proof.Machine

/-- PIN_DOOR_EDGE (R141): the sensed level changes and the trigger flag is set. -/
def execPinDoorEdge (s : State) : Host.Outcome State Fault Refusal := .next { s with door := !s.door, doorTrig := true }

/-- WR_LOCK_UNLOCK (R146): held while a sequence runs; else a sequence for DATA[8], or REJECT_x. -/
def execWrLockUnlock (data : Word) (s : State) : Host.Outcome State Fault Refusal :=
  if unlockHeld s then .next (s.holdBus (.wrLockUnlock data)) else .next (s.requestUnlock (lockCmdDir data))

/-- WR_LOCK_CMD_RSVD (R147): BAD_CMD, even while a sequence runs. -/
def execWrLockCmdRsvd (s : State) : Host.Outcome State Fault Refusal := .next { s with evtBad := true }

/-- SEQ_ADVANCE (R151). -/
def execSeqAdvance (s : State) : Host.Outcome State Fault Refusal :=
  if seqAdvanceHeld s then .next s.holdSeqAdvance else .next s.advanceSeq

/-- EVAL (R162). -/
def execEval (s : State) : Host.Outcome State Fault Refusal :=
  if evalHeld s then .next s.holdEval else .next s.evaluate

/-- RD_LOCK_STATUS (R164). -/
def execRdLockStatus (s : State) : Host.Outcome State Fault Refusal := .next (s.busReturn (lockStatusWord s))

/-- RD_CLOSE_DL_LO (R165). -/
def execRdCloseDlLo (d : Dir) (s : State) : Host.Outcome State Fault Refusal := .next (s.busReturn (loWord (s.lk.get d).cd))

/-- RD_CLOSE_DL_HI (R166). -/
def execRdCloseDlHi (d : Dir) (s : State) : Host.Outcome State Fault Refusal := .next (s.busReturn (hiWord (s.lk.get d).cd))

/-- RD_LAST_RELOCK_LO (R167). -/
def execRdLastRelockLo (d : Dir) (s : State) : Host.Outcome State Fault Refusal := .next (s.busReturn (loWord (s.lk.get d).lu))

/-- RD_LAST_RELOCK_HI (R168). -/
def execRdLastRelockHi (d : Dir) (s : State) : Host.Outcome State Fault Refusal := .next (s.busReturn (hiWord (s.lk.get d).lu))

end Sys2Proof.Machine
end

