-- ==== Sys2Proof/Machine/TimebaseBus.lean ====
section
/-! DEFINITION. The timebase and bus family (42_timebase_bus.md) and RESET (70_reset_and_hazards.md). -/

namespace Sys2Proof.Machine

/-- TICK (R190): refused from 2^63 on, held while an internal step is pending (R191), else `now` + 1. -/
def execTick (s : State) : Host.Outcome State Fault Refusal :=
  if timeOver s then .next (s.raiseRefused (.timeOverflow s.now))
  else if internalPending s then .next s.holdTick
  else .next { s with now := s.now + 1#64 }

/-- RD_NOW_LO (R193). -/
def execRdNowLo (s : State) : Host.Outcome State Fault Refusal := .next (s.busReturn (loWord s.now))

/-- RD_NOW_HI (R194). -/
def execRdNowHi (s : State) : Host.Outcome State Fault Refusal := .next (s.busReturn (hiWord s.now))

/-- RD_EVT_FLAGS (R195): a read clears nothing. -/
def execRdEvtFlags (s : State) : Host.Outcome State Fault Refusal := .next (s.busReturn (evtFlagsWord s))

/-- WR_EVT_FLAGS (R196): W1C of DATA[9:3]. -/
def execWrEvtFlags (data : Word) (s : State) : Host.Outcome State Fault Refusal := .next (s.clearFlags data)

/-- RD_RESERVED (R197): returns 0. -/
def execRdReserved (s : State) : Host.Outcome State Fault Refusal := .next (s.busReturn 0#32)

/-- WR_IGNORED (R198): no effect. -/
def execWrIgnored (s : State) : Host.Outcome State Fault Refusal := .next s

/-- RESET (R240): never held, never refused. -/
def execReset (s : State) : Host.Outcome State Fault Refusal := .next s.blockReset

end Sys2Proof.Machine
end

