-- ==== Sys2Proof/Machine/Dispatch.lean ====
section
/-! DEFINITION. One arm per stimulus (R77): its meaning. -/

namespace Sys2Proof.Machine

def exec (i : Instr) (s : State) : Host.Outcome State Fault Refusal :=
  match i with
  | .rdChStatus c => Sys2Proof.Machine.execRdChStatus c s
  | .rdChCount c => Sys2Proof.Machine.execRdChCount c s
  | .rdChBufLo c => Sys2Proof.Machine.execRdChBufLo c s
  | .rdChBufHi c => Sys2Proof.Machine.execRdChBufHi c s
  | .rdChDlLo c => Sys2Proof.Machine.execRdChDlLo c s
  | .rdChDlHi c => Sys2Proof.Machine.execRdChDlHi c s
  | .rdChDecode c => Sys2Proof.Machine.execRdChDecode c s
  | .wrChReset c _ => Sys2Proof.Machine.execWrChReset c s
  | .wrChCtrlNop _ _ => Sys2Proof.Machine.execWrChCtrlNop s
  | .rdEvtFlags => Sys2Proof.Machine.execRdEvtFlags s
  | .wrEvtFlags data => Sys2Proof.Machine.execWrEvtFlags data s
  | .rdLockStatus => Sys2Proof.Machine.execRdLockStatus s
  | .wrLockUnlock data => Sys2Proof.Machine.execWrLockUnlock data s
  | .wrLockCmdRsvd _ => Sys2Proof.Machine.execWrLockCmdRsvd s
  | .rdCloseDlLo d => Sys2Proof.Machine.execRdCloseDlLo d s
  | .rdCloseDlHi d => Sys2Proof.Machine.execRdCloseDlHi d s
  | .rdLastRelockLo d => Sys2Proof.Machine.execRdLastRelockLo d s
  | .rdLastRelockHi d => Sys2Proof.Machine.execRdLastRelockHi d s
  | .rdNowLo => Sys2Proof.Machine.execRdNowLo s
  | .rdNowHi => Sys2Proof.Machine.execRdNowHi s
  | .rdReserved _ => Sys2Proof.Machine.execRdReserved s
  | .wrIgnored _ _ => Sys2Proof.Machine.execWrIgnored s
  | .pinD0Fall c => Sys2Proof.Machine.execPinD0Fall c s
  | .pinD1Fall c => Sys2Proof.Machine.execPinD1Fall c s
  | .pinDoorEdge => Sys2Proof.Machine.execPinDoorEdge s
  | .tick => Sys2Proof.Machine.execTick s
  | .reset => Sys2Proof.Machine.execReset s
  | .eval => Sys2Proof.Machine.execEval s
  | .seqAdvance => Sys2Proof.Machine.execSeqAdvance s

end Sys2Proof.Machine
end

