-- ==== Sys2Proof/Machine/Sched.lean ====
section
/-! DEFINITION. How a stimulus reaches its meaning: a word arrives and is decoded (R70, R75, R76), a held stimulus waits and is
tried again (R8, R212), the host's accesses keep their order (R59, R247), and the end state of a run (R191, R252). -/

namespace Sys2Proof.Machine

/-- The hold table of R212: is the stimulus held in this state? Every stimulus it does not list is never held. -/
def heldNow (i : Instr) (s : State) : Bool :=
  match i with
  | .wrLockUnlock _ => unlockHeld s
  | .seqAdvance => seqAdvanceHeld s
  | .eval => evalHeld s
  | .tick => tickHeld s
  | .rdChStatus _ | .rdChCount _ | .rdChBufLo _ | .rdChBufHi _ | .rdChDlLo _ | .rdChDlHi _ | .rdChDecode _ => false
  | .wrChReset _ _ | .wrChCtrlNop _ _ | .rdEvtFlags | .wrEvtFlags _ | .rdLockStatus | .wrLockCmdRsvd _ => false
  | .rdCloseDlLo _ | .rdCloseDlHi _ | .rdLastRelockLo _ | .rdLastRelockHi _ => false
  | .rdNowLo | .rdNowHi | .rdReserved _ | .wrIgnored _ _ => false
  | .pinD0Fall _ | .pinD1Fall _ | .pinDoorEdge | .reset => false

/-- The host's bus is stalled: an access of its own waits (R247). -/
def busStalled (s : State) : Bool := !s.waiting.bus.isEmpty

/-- A stimulus is presented: a host access behind a stalled one waits its turn (R59 (b), R247), everything else runs. -/
def present (i : Instr) (s : State) : Host.Outcome State Fault Refusal :=
  if isBusAccess i && busStalled s then .next (s.holdBus i) else exec i s

/-- A stimulus word arrives: decode it (R75); an ILLEGAL word is `raise Refused(IllegalStimulus)` (R76). -/
def arrive (x : StimWord) (s : State) : Host.Outcome State Fault Refusal :=
  match decode x with
  | .ok i => present i s
  | .error _ => .next (s.raiseRefused (.illegalStimulus x))

/-- A waiting stimulus gets its chance: it takes its step if its hold has lifted (R212), the host's accesses oldest first. -/
def retry (k : HeldKind) (s : State) : Host.Outcome State Fault Refusal :=
  match k with
  | .bus =>
    match s.waiting.bus with
    | [] => .next s
    | i :: rest => if heldNow i s then .next s else exec i { s with waiting := { s.waiting with bus := rest } }
  | .tick =>
    match s.waiting.ticks with
    | 0 => .next s
    | n + 1 => if heldNow .tick s then .next s else exec .tick { s with waiting := { s.waiting with ticks := n } }
  | .eval =>
    match s.waiting.evals with
    | 0 => .next s
    | n + 1 => if heldNow .eval s then .next s else exec .eval { s with waiting := { s.waiting with evals := n } }
  | .seqAdvance =>
    match s.waiting.seqAdvances with
    | 0 => .next s
    | n + 1 =>
      if heldNow .seqAdvance s then .next s
      else exec .seqAdvance { s with waiting := { s.waiting with seqAdvances := n } }

/-- One turn of the total order (R55). -/
def takeTurn (turn : Turn) (s : State) : Host.Outcome State Fault Refusal :=
  match turn with
  | .arrive x => arrive x s
  | .retry k => retry k s

/-- The productive internal step of a state: SEQ_ADVANCE if it is enabled, else EVAL if it is productive (R191, R252:
at most one is enabled). -/
def internalStep (s : State) : State :=
  if !seqAdvanceHeld s then s.advanceSeq else if evalProductive s then s.evaluate else s

/-- Every productive internal step, until none is pending, at most `fuel` of them. -/
def settleWithin : Nat → State → State
  | 0, s => s
  | n + 1, s => if internalPending s then settleWithin n (internalStep s) else s

/-- The end state of a run that has come to `s` (R252): "at most two internal steps run before `internalPending` is false
again" (R191). What still waits in `State.waiting` is left there, even if its hold has lifted. DESIGN CHOICE, log entry 28. -/
def settle (s : State) : State := settleWithin 2 s

end Sys2Proof.Machine
end

