-- ==== Sys2Proof/Machine/Step.lean ====
section
/-! DEFINITION. One step of the machine: the next turn of the total order (R55). The block has no program counter and fetches
nothing (R11, R63): "A step is chosen by the stimulus that arrives". -/

namespace Sys2Proof.Machine

/-- One step: the first turn of the schedule. With no turn left nothing moves: "The model makes no agent take a step" (R192).
Log entries 5 and 13. -/
def step (s : State) : Host.Outcome State Fault Refusal :=
  match s.schedule with
  | [] => .next s
  | turn :: rest => takeTurn turn { s with schedule := rest }

/-- `s` with the stimulus word `w` as the very next turn. A host access can only be the next to run on a bus that is not
stalled (R247), so for a bus word the stalled accesses are taken away; nothing else changes. Log entry 16. -/
def State.withFetchWord (s : State) (nbits w : Nat) : State :=
  let x := BitVec.ofNat 48 (w % 2 ^ nbits)
  { s with
    schedule := .arrive x :: s.schedule
    waiting := { s.waiting with bus := if (wordClass x).ule 0x1#4 then [] else s.waiting.bus } }

end Sys2Proof.Machine
end

