-- ==== Sys2Proof/Machine/RegMap.lean ====
section
/-! DEFINITION. The register map (R24): every named register, its word index, its content, and the reads and writes of the
register space (R50, R51, R56, R57). The meanings do not use it: that BUS_READ of a word returns the map's content is an
obligation. -/

namespace Sys2Proof.Machine

/-- The named registers (R24). -/
inductive Reg where
  | chStatus (c : Dir)
  | chCount (c : Dir)
  | chBufLo (c : Dir)
  | chBufHi (c : Dir)
  | chDlLo (c : Dir)
  | chDlHi (c : Dir)
  | chDecode (c : Dir)
  | chCtrl (c : Dir)
  | evtFlags
  | lockStatus
  | lockCmd
  | closeDlLo (d : Dir)
  | closeDlHi (d : Dir)
  | lastRelockLo (d : Dir)
  | lastRelockHi (d : Dir)
  | nowLo
  | nowHi
  deriving DecidableEq, Repr

/-- 0 for entry, 1 for exit: the `c` and `d` of R24's index formulas. -/
def dirNum : Dir → Nat
  | .entry => 0
  | .exit => 1

/-- The word index of a register, by the formulas of R24. -/
def regIndex : Reg → Nat
  | .chStatus c => 0x00 + 8 * dirNum c
  | .chCount c => 0x01 + 8 * dirNum c
  | .chBufLo c => 0x02 + 8 * dirNum c
  | .chBufHi c => 0x03 + 8 * dirNum c
  | .chDlLo c => 0x04 + 8 * dirNum c
  | .chDlHi c => 0x05 + 8 * dirNum c
  | .chDecode c => 0x06 + 8 * dirNum c
  | .chCtrl c => 0x07 + 8 * dirNum c
  | .evtFlags => 0x10
  | .lockStatus => 0x11
  | .lockCmd => 0x12
  | .closeDlLo d => 0x14 + 2 * dirNum d
  | .closeDlHi d => 0x15 + 2 * dirNum d
  | .lastRelockLo d => 0x18 + 2 * dirNum d
  | .lastRelockHi d => 0x19 + 2 * dirNum d
  | .nowLo => 0x1C
  | .nowHi => 0x1D

/-- What a read of a register returns (R25 to R32): the write-only registers read 0. -/
def regContent (s : State) : Reg → Word
  | .chStatus c => chStatusWord s c
  | .chCount c => chCountWord s c
  | .chBufLo c => loWord (s.ch.get c).buf
  | .chBufHi c => hiWord (s.ch.get c).buf
  | .chDlLo c => loWord (s.ch.get c).dl
  | .chDlHi c => hiWord (s.ch.get c).dl
  | .chDecode c => chDecodeWord s c
  | .chCtrl _ => 0#32
  | .evtFlags => evtFlagsWord s
  | .lockStatus => lockStatusWord s
  | .lockCmd => 0#32
  | .closeDlLo d => loWord (s.lk.get d).cd
  | .closeDlHi d => hiWord (s.lk.get d).cd
  | .lastRelockLo d => loWord (s.lk.get d).lu
  | .lastRelockHi d => hiWord (s.lk.get d).lu
  | .nowLo => loWord s.now
  | .nowHi => hiWord s.now

/-- The registers of one channel or direction. -/
def dirRegs (d : Dir) : List Reg :=
  [.chStatus d, .chCount d, .chBufLo d, .chBufHi d, .chDlLo d, .chDlHi d, .chDecode d, .chCtrl d,
   .closeDlLo d, .closeDlHi d, .lastRelockLo d, .lastRelockHi d]

/-- Every named register. -/
def allRegs : List Reg := dirRegs .entry ++ dirRegs .exit ++ [.evtFlags, .lockStatus, .lockCmd, .nowLo, .nowHi]

/-- The register at a word index, or none for a reserved word (R24, R32). -/
def regAt (w : WordIdx) : Option Reg := allRegs.find? fun r => regIndex r == w.toNat

/-- `MemRead(w, 4)` (R8, R51): the value of a register word, 0 where it is reserved (R32). -/
def memRead (s : State) (w : WordIdx) : Word :=
  match regAt w with
  | some r => regContent s r
  | none => 0#32

/-- The byte address at which the host sees word `w` (R24, R57). -/
def byteAddress (g : Config) (w : WordIdx) : Nat := g.cfclBase + 4 * w.toNat

end Sys2Proof.Machine
end

