-- ==== Sys2Proof/Machine/Asm.lean ====
section
/-! DEFINITION. The assembler syntax (R80), the pseudo-instructions and their expansions (R81), and the disassembler (R80).
The step does not use them; they say which stimuli a line of a program spells. Log entry 22. -/

namespace Sys2Proof.Machine

/-! ### Lines (R80, R81) -/

/-- One line of a program. -/
inductive AsmLine where
  /-- `rd NAME` or `rd NAME(i)` -/
  | rd (r : Reg)
  /-- `rd w=N` -/
  | rdWord (w : WordIdx)
  /-- `wr NAME, V` or `wr NAME(i), V` -/
  | wr (r : Reg) (v : Word)
  /-- `wr w=N, V` -/
  | wrWord (w : WordIdx) (v : Word)
  /-- `pin d0 C` -/
  | pinD0 (c : Dir)
  /-- `pin d1 C` -/
  | pinD1 (c : Dir)
  /-- `pin door` -/
  | pinDoor
  /-- `tick` is `tick 1`; `tick N` is N copies -/
  | tick (n : Nat)
  | reset
  | eval
  | seqadv
  /-- `frame C, N, V` -/
  | frame (c : Dir) (n : Nat) (v : Nat)
  /-- `chreset C` -/
  | chreset (c : Dir)
  /-- `unlock D` -/
  | unlock (d : Dir)
  /-- `ack M` -/
  | ack (m : Word)
  deriving DecidableEq, Repr

/-- The word index of a register. -/
def regWord (r : Reg) : WordIdx := BitVec.ofNat 6 (regIndex r)

/-- The pin edge that sends a bit: `pin d1 C` for 1, `pin d0 C` for 0 (R81). -/
def bitEdge (c : Dir) (b : Bool) : Instr := if b then .pinD1Fall c else .pinD0Fall c

/-- `frame C, N, V`: bits N−1 down to 0 of V, most-significant bit first (R81). -/
def frameEdges (c : Dir) : Nat → Nat → List Instr
  | 0, _ => []
  | n + 1, v => bitEdge c (v.testBit n) :: frameEdges c n v

/-- The stimuli a line spells (R80, R81). -/
def expandLine : AsmLine → List Instr
  | .rd r => [decodeRead (regWord r)]
  | .rdWord w => [decodeRead w]
  | .wr r v => [decodeWrite (regWord r) v]
  | .wrWord w v => [decodeWrite w v]
  | .pinD0 c => [.pinD0Fall c]
  | .pinD1 c => [.pinD1Fall c]
  | .pinDoor => [.pinDoorEdge]
  | .tick n => List.replicate n .tick
  | .reset => [.reset]
  | .eval => [.eval]
  | .seqadv => [.seqAdvance]
  | .frame c n v => frameEdges c n v
  | .chreset c => [decodeWrite (regWord (.chCtrl c)) 0x1#32]
  | .unlock d => [decodeWrite (regWord .lockCmd) (0x1#32 ||| (BitVec.ofNat 32 (dirNum d) <<< 8))]
  | .ack m => [decodeWrite (regWord .evtFlags) m]

/-- The stimulus words of a line. -/
def lineWords (l : AsmLine) : List StimWord := (expandLine l).map encode

/-! ### Text (R80) -/

/-- The tokens of a line. -/
inductive Token where
  | name (cs : List Char)
  | lpar
  | rpar
  | comma
  | equals
  deriving DecidableEq, Repr

/-- The token of the letters gathered so far, last first. -/
def gathered : List Char → List Token
  | [] => []
  | c :: cs => [.name (c :: cs).reverse]

/-- Cut a line into tokens: `;` starts a comment. -/
def tokens : List Char → List Char → List Token
  | [], acc => gathered acc
  | c :: cs, acc =>
    if c == ';' then gathered acc
    else if c == ' ' || c == '\t' || c == '\r' then gathered acc ++ tokens cs []
    else if c == '(' then gathered acc ++ .lpar :: tokens cs []
    else if c == ')' then gathered acc ++ .rpar :: tokens cs []
    else if c == ',' then gathered acc ++ .comma :: tokens cs []
    else if c == '=' then gathered acc ++ .equals :: tokens cs []
    else tokens cs (c :: acc)

/-- The value of a hexadecimal digit. -/
def hexDigit (c : Char) : Option Nat :=
  if '0' ≤ c ∧ c ≤ '9' then some (c.toNat - '0'.toNat)
  else if 'a' ≤ c ∧ c ≤ 'f' then some (c.toNat - 'a'.toNat + 10)
  else if 'A' ≤ c ∧ c ≤ 'F' then some (c.toNat - 'A'.toNat + 10)
  else none

/-- Digits in a base, most significant first. -/
def digits (base : Nat) : List Char → Nat → Option Nat
  | [], acc => some acc
  | c :: cs, acc =>
    match hexDigit c with
    | some k => if k < base then digits base cs (acc * base + k) else none
    | none => none

/-- "numbers are decimal or `0x` hex" (R80). -/
def number : List Char → Option Nat
  | [] => none
  | '0' :: 'x' :: c :: cs => digits 16 (c :: cs) 0
  | c :: cs => digits 10 (c :: cs) 0

/-- A channel or direction: 0 or 1. -/
def dirNumber (cs : List Char) : Option Dir :=
  match number cs with
  | some 0 => some .entry
  | some 1 => some .exit
  | _ => none

/-- A number below a bound. -/
def numberBelow (bound : Nat) (cs : List Char) : Option Nat :=
  match number cs with
  | some n => if n < bound then some n else none
  | none => none

/-- A 32-bit value. -/
def valueNumber (cs : List Char) : Option Word := (numberBelow (2 ^ 32) cs).map (BitVec.ofNat 32)

/-- The register of a name that takes no index (R24). -/
def plainReg (cs : List Char) : Option Reg :=
  if cs == "EVT_FLAGS".toList then some .evtFlags
  else if cs == "LOCK_STATUS".toList then some .lockStatus
  else if cs == "LOCK_CMD".toList then some .lockCmd
  else if cs == "NOW_LO".toList then some .nowLo
  else if cs == "NOW_HI".toList then some .nowHi
  else none

/-- The register of a name with index `d` (R24). -/
def indexedReg (cs : List Char) (d : Dir) : Option Reg :=
  if cs == "CH_STATUS".toList then some (.chStatus d)
  else if cs == "CH_COUNT".toList then some (.chCount d)
  else if cs == "CH_BUF_LO".toList then some (.chBufLo d)
  else if cs == "CH_BUF_HI".toList then some (.chBufHi d)
  else if cs == "CH_DL_LO".toList then some (.chDlLo d)
  else if cs == "CH_DL_HI".toList then some (.chDlHi d)
  else if cs == "CH_DECODE".toList then some (.chDecode d)
  else if cs == "CH_CTRL".toList then some (.chCtrl d)
  else if cs == "CLOSE_DL_LO".toList then some (.closeDlLo d)
  else if cs == "CLOSE_DL_HI".toList then some (.closeDlHi d)
  else if cs == "LAST_RELOCK_LO".toList then some (.lastRelockLo d)
  else if cs == "LAST_RELOCK_HI".toList then some (.lastRelockHi d)
  else none

/-- What may be read or written: a register, or a word by its index. -/
inductive Target where
  | reg (r : Reg)
  | word (w : WordIdx)
  deriving DecidableEq, Repr

/-- `NAME`, `NAME(i)` or `w=N` at the start of a token list, with the tokens after it. -/
def target : List Token → Option (Target × List Token)
  | .name cs :: .lpar :: .name i :: .rpar :: rest =>
    match dirNumber i with
    | some d => (indexedReg cs d).map fun r => (.reg r, rest)
    | none => none
  | .name cs :: .equals :: .name n :: rest =>
    if cs == "w".toList then (numberBelow 64 n).map fun k => (.word (BitVec.ofNat 6 k), rest) else none
  | .name cs :: rest => (plainReg cs).map fun r => (.reg r, rest)
  | _ => none

/-- `rd` of a target. -/
def rdLine : List Token → Option AsmLine := fun ts =>
  match target ts with
  | some (.reg r, []) => some (.rd r)
  | some (.word w, []) => some (.rdWord w)
  | _ => none

/-- `wr` of a target and a value. -/
def wrLine : List Token → Option AsmLine := fun ts =>
  match target ts with
  | some (.reg r, [.comma, .name v]) => (valueNumber v).map (.wr r)
  | some (.word w, [.comma, .name v]) => (valueNumber v).map (.wrWord w)
  | _ => none

/-- `pin door`, `pin d0 C`, `pin d1 C`. -/
def pinLine : List Token → Option AsmLine
  | [.name p] => if p == "door".toList then some .pinDoor else none
  | [.name p, .name c] =>
    if p == "d0".toList then (dirNumber c).map .pinD0
    else if p == "d1".toList then (dirNumber c).map .pinD1
    else none
  | _ => none

/-- `tick` and `tick N`. -/
def tickLine : List Token → Option AsmLine
  | [] => some (.tick 1)
  | [.name n] => (number n).map .tick
  | _ => none

/-- `frame C, N, V`. -/
def frameLine : List Token → Option AsmLine
  | [.name c, .comma, .name n, .comma, .name v] =>
    match dirNumber c, number n, number v with
    | some c, some n, some v => some (.frame c n v)
    | _, _, _ => none
  | _ => none

/-- A line that is a keyword alone. -/
def bareLine (l : AsmLine) : List Token → Option AsmLine
  | [] => some l
  | _ => none

/-- A line of one operand. -/
def operandLine {α : Type} (parse : List Char → Option α) (mk : α → AsmLine) : List Token → Option AsmLine
  | [.name x] => (parse x).map mk
  | _ => none

/-- A line by its first token; `none` is a line the syntax does not have. An empty line spells no stimulus. -/
def parseTokens : List Token → Option (List AsmLine)
  | [] => some []
  | .name k :: rest =>
    let one : Option AsmLine :=
      if k == "rd".toList then rdLine rest
      else if k == "wr".toList then wrLine rest
      else if k == "pin".toList then pinLine rest
      else if k == "tick".toList then tickLine rest
      else if k == "reset".toList then bareLine .reset rest
      else if k == "eval".toList then bareLine .eval rest
      else if k == "seqadv".toList then bareLine .seqadv rest
      else if k == "frame".toList then frameLine rest
      else if k == "chreset".toList then operandLine dirNumber .chreset rest
      else if k == "unlock".toList then operandLine dirNumber .unlock rest
      else if k == "ack".toList then operandLine valueNumber .ack rest
      else none
    one.map fun l => [l]
  | _ => none

/-- The lines of a text. -/
def splitLines : List Char → List Char → List (List Char)
  | [], acc => [acc.reverse]
  | c :: cs, acc => if c == '\n' then acc.reverse :: splitLines cs [] else splitLines cs (c :: acc)

/-- The stimuli of a list of lines, or none if one of them is not in the syntax. -/
def assembleLines : List (List Char) → Option (List Instr)
  | [] => some []
  | l :: ls =>
    match parseTokens (tokens l []), assembleLines ls with
    | some parsed, some rest => some (parsed.flatMap expandLine ++ rest)
    | _, _ => none

/-- The assembler (R80, R81): the stimuli that a program text spells, one line each. -/
def assemble (text : String) : Option (List Instr) := assembleLines (splitLines text.toList [])

/-! ### The disassembler (R80) -/

/-- A field of a disassembled line. -/
def showField (name : String) (n : Nat) : String := " " ++ name ++ "=" ++ toString n

/-- "A disassembler prints the mnemonic of the opcode-table row followed by `c=`, `d=`, `w=` or `data=` fields" (R80). -/
def disassemble (i : Instr) : String :=
  match i with
  | .rdChStatus c | .rdChCount c | .rdChBufLo c | .rdChBufHi c | .rdChDlLo c | .rdChDlHi c | .rdChDecode c =>
    i.mnemonic ++ showField "c" (dirNum c)
  | .wrChReset c data | .wrChCtrlNop c data => i.mnemonic ++ showField "c" (dirNum c) ++ showField "data" data.toNat
  | .wrLockUnlock data => i.mnemonic ++ showField "d" (dirNum (lockCmdDir data)) ++ showField "data" data.toNat
  | .wrEvtFlags data | .wrLockCmdRsvd data => i.mnemonic ++ showField "data" data.toNat
  | .rdCloseDlLo d | .rdCloseDlHi d | .rdLastRelockLo d | .rdLastRelockHi d => i.mnemonic ++ showField "d" (dirNum d)
  | .rdReserved w => i.mnemonic ++ showField "w" w.toNat
  | .wrIgnored w data => i.mnemonic ++ showField "w" w.toNat ++ showField "data" data.toNat
  | .pinD0Fall c | .pinD1Fall c => i.mnemonic ++ showField "c" (dirNum c)
  | .rdEvtFlags | .rdLockStatus | .rdNowLo | .rdNowHi | .pinDoorEdge | .tick | .reset | .eval | .seqAdvance => i.mnemonic

end Sys2Proof.Machine
end

