-- ==== Sys2Proof/Machine/PowerOn.lean ====
section
/-! DEFINITION. Model construction: the parameter ranges of R5, the refusal BadConfig (R211), and the power-on state of any
configuration and door level (R241). -/

namespace Sys2Proof.Machine

/-- 2^32 − 1, the largest duration of R5. -/
def maxDuration : Nat := 4294967295

/-- A duration's value and least legal value (R5). The four that R5 gives a value have the range that R190 states,
"every duration below 2^32". DEDUCED, log entry 3. -/
def durationOf (g : Config) : Param → Nat × Nat
  | .tBit => (g.tBit, 1)
  | .doorTimeout => (g.doorTimeout, 0)
  | .doorSwingTimeout => (g.doorSwingTimeout, 0)
  | .obstructionWindow => (g.obstructionWindow, 0)
  | .lockedOpenTimeout => (g.lockedOpenTimeout, 0)
  | .pollDelay => (g.pollDelay, 1)
  | .tDriveOpen => (g.tDriveOpen, 1)
  | .tDriveClose => (g.tDriveClose, 1)
  | .tHoldOpen => (g.tHoldOpen, 0)
  | .tHoldClose => (g.tHoldClose, 0)

/-- Is a parameter in its range (R5)? -/
def paramOk (g : Config) (p : Param) : Bool :=
  decide ((durationOf g p).2 ≤ (durationOf g p).1) && decide ((durationOf g p).1 ≤ maxDuration)

/-- The parameters with a range, in the order of R5's table. -/
def allParams : List Param :=
  [.tBit, .doorTimeout, .doorSwingTimeout, .obstructionWindow, .lockedOpenTimeout, .pollDelay,
   .tDriveOpen, .tDriveClose, .tHoldOpen, .tHoldClose]

/-- The parameters outside their ranges. -/
def badParams (g : Config) : List Param := allParams.filter fun p => !paramOk g p

/-- "A model refuses a configuration outside these ranges" (R5): BadConfig for each such parameter (R211). Log entry 14. -/
def refuseConfig (s : State) : List Param → State
  | [] => s
  | p :: ps => refuseConfig (s.raiseRefused (.badConfig p)) ps

/-- Model construction (R241): the power-on state with a configuration and a door level, and with the turns to come.
A configuration out of range sets the sticky mark. -/
def State.powerOn (g : Config) (door : Bool) (schedule : List Turn) : State :=
  refuseConfig { State.reset with cfg := g, door := door, schedule := schedule } (badParams g)

end Sys2Proof.Machine
end

