-- ==== Sys2Proof/Safety.lean ====
section
/-! DEFINITION. What counts as a good state, in the terms the claims use: the invariants the spec states of every reachable
state (R13, R15 to R18, R159, R169, R190, R191), which start states a model admits (I1, I2, I5), and when a run has an end
state (R33, R252). -/

namespace Sys2Proof.Machine

/-- R13's invariants of a channel, and the range of its deadline (R101, R112). -/
structure CaptureInv (g : Config) (now : Time) (x : Capture) : Prop where
  /-- R13 (i) -/
  deadline_iff_bits : x.dlv = true ↔ x.cnt ≠ 0#8
  /-- R13 (ii) -/
  buffer_fits : x.cnt.toNat ≤ 63 → x.buf.toNat < 2 ^ x.cnt.toNat
  /-- R13 (iii) -/
  no_deadline_reads_zero : x.dlv = false → x.dl = 0#64
  /-- a valid deadline lies between `T_BIT` and `now + T_BIT` -/
  deadline_range : x.dlv = true → g.tBit ≤ x.dl.toNat ∧ x.dl.toNat ≤ now.toNat + g.tBit

/-- The invariants of a lock (R15, R17, R18, R159). -/
structure LockInv (now : Time) (l : Lock) : Prop where
  /-- R15: 0 and 1 is unreachable -/
  lockedOpen_is_open : l.lo = true → l.isOpen = true
  /-- R17: an open lock has a close deadline, and a `Locked` one has none -/
  open_iff_deadline : l.isOpen = l.cdv
  /-- R17 -/
  no_deadline_reads_zero : l.cdv = false → l.cd = 0#64
  /-- R18 -/
  no_relock_reads_zero : l.luv = false → l.lu = 0#64
  /-- R159: `lu ≤ now` -/
  relock_in_past : l.lu.toNat ≤ now.toNat
  /-- no close deadline is further away than the longest duration (R190) -/
  deadline_bound : l.cd.toNat ≤ now.toNat + maxDuration

/-- The invariants of the sequencer (R19, R150, R151, R169, R191). -/
structure SeqInv (s : State) : Prop where
  /-- R19: 0 when IDLE -/
  idle_end_zero : s.seq.phase = .idle → s.seq.endAt = 0#64
  /-- R191: time never passes the end of a phase -/
  busy_not_past_end : s.seq.phase ≠ .idle → s.now.toNat ≤ s.seq.endAt.toNat
  end_bound : s.seq.endAt.toNat ≤ s.now.toNat + maxDuration
  /-- R151: 0 is no hold phase -/
  hold_has_time : s.seq.phase = .hold → 0 < holdTime s.cfg s.seq.kind
  /-- R169: an unlock sequence runs only while the opposite lock is not open -/
  unlock_interlocked : s.seq.phase ≠ .idle → s.seq.kind ≠ .relock → (s.lk.get (opp s.seq.dir)).isOpen = false
  /-- R160: a re-lock sequence runs on an open lock -/
  relock_of_open : s.seq.phase ≠ .idle → s.seq.kind = .relock → (s.lk.get s.seq.dir).isOpen = true
  /-- R159: a locked-open sequence runs on a lock that is not open -/
  lockedOpen_of_locked : s.seq.phase ≠ .idle → s.seq.kind = .unlockLockedOpen → (s.lk.get s.seq.dir).isOpen = false

/-- Not both locks are open (R169). -/
def DoorsExclusive (s : State) : Prop := ¬(s.lk.entry.isOpen = true ∧ s.lk.exit.isOpen = true)

/-- The invariant of every reachable state. -/
structure BlockInv (s : State) : Prop where
  /-- R5 -/
  config_in_range : badParams s.cfg = []
  /-- R190: TICK is refused from 2^63 on -/
  time_bound : s.now.toNat ≤ 2 ^ 63
  capture_entry : CaptureInv s.cfg s.now s.ch.entry
  capture_exit : CaptureInv s.cfg s.now s.ch.exit
  lock_entry : LockInv s.now s.lk.entry
  lock_exit : LockInv s.now s.lk.exit
  sequencer : SeqInv s
  /-- R169 -/
  exclusive : DoorsExclusive s
  hold_bound : s.evalHold.toNat ≤ s.now.toNat + maxDuration
  /-- R33, R211 -/
  refused_iff_recorded : s.refused = true ↔ s.refusals ≠ []
  /-- R247: only well-formed host accesses wait on the bus -/
  bus_accesses_wait : ∀ i ∈ s.waiting.bus, isBusAccess i = true ∧ i.wf = true

/-- A state that a model run comes to from power-on, with a configuration in range, any door level and any turns to come
(R241, R55): since the turns are any, these are the reachable states of every interleaving. -/
def Reachable (s : State) : Prop :=
  ∃ (g : Config) (door : Bool) (schedule : List Turn) (n : Nat), badParams g = [] ∧
    Host.Core.run Sys2Proof.core n (State.powerOn g door schedule) = .next s

/-- The sensor reads open (R21). -/
def SensorReadsOpen (s : State) : Prop := s.door = s.cfg.sensorOpenLevel

/-- The conditions of locked-open detection for `d`, one by one (R159). -/
structure LockedOpenDetected (s : State) (d : Dir) : Prop where
  is_locked : (s.lk.get d).isOpen = false
  sensor_open : SensorReadsOpen s
  relock_recorded : (s.lk.get d).luv = true
  within_window : (s.now - (s.lk.get d).lu).toNat < s.cfg.obstructionWindow
  opposite_not_open : (s.lk.get (opp d)).isOpen = false

/-- The conditions of a re-lock of `d`, one by one (R160). -/
structure RelockDue (s : State) (d : Dir) : Prop where
  is_open : (s.lk.get d).isOpen = true
  sensor_closed : ¬SensorReadsOpen s
  has_deadline : (s.lk.get d).cdv = true
  deadline_passed : (s.lk.get d).cd.toNat < s.now.toNat

/-- "`refuse` as a start state": a lock encoding 0 and 1 (I1) or a configuration out of range (I5); phase and kind 3 (I2)
cannot be written down. Log entry 15. -/
def Startable (s : State) : Prop :=
  lockMode s.lk.entry ≠ none ∧ lockMode s.lk.exit ≠ none ∧ badParams s.cfg = []

/-- A run that has come to `s` has an end state: no refusal is marked (R33) and no internal step is pending (R252). Whether
a stimulus still waits is not asked. DESIGN CHOICE, log entry 28. -/
def IsEndState (s : State) : Prop := s.refused = false ∧ internalPending s = false

end Sys2Proof.Machine
end

