-- ==== Sys2Proof/Certificates/Slice0/Obligations.lean ====
section
/-! DEFINITION. The statements for the provers: what the numbered rules of the spec say the block does. Values are written out
from the rules, as numbers and fields, not through the functions the meanings use. -/

open Sys2Proof Sys2Proof.Machine

/-! ### The step -/

/-- R55, R70, R75: when the next turn brings a word that decodes to a stimulus, the step is that stimulus's meaning on the
state without the turn, unless it is a host access and the host's bus is stalled (the next statement). -/
def Obligations.StepRunsTheDecodedStimulus : Prop :=
  ∀ (s : State) (x : StimWord) (rest : List Turn) (i : Instr),
    s.schedule = .arrive x :: rest → decode x = .ok i → (isBusAccess i = true → s.waiting.bus = []) →
    step s = exec i { s with schedule := rest }

/-- R247, R59 (b): "All the host's later accesses wait behind it, because the host's accesses take effect in program order".
That waiting accesses form a queue is log entry 8. -/
def Obligations.HostAccessBehindAStalledOneWaits : Prop :=
  ∀ (s : State) (x : StimWord) (rest : List Turn) (i : Instr),
    s.schedule = .arrive x :: rest → decode x = .ok i → isBusAccess i = true → s.waiting.bus ≠ [] →
    step s = .next { s with schedule := rest, waiting := { s.waiting with bus := s.waiting.bus ++ [i] } }

/-- R76, R211, and R74 and R77 for TICK and RESET with ARG not 0, which R76's own list does not name: exactly these words are
ILLEGAL, and their step sets the refused mark, records the word and changes no other state. The record list is the model's, log
entry 12, and so is that an ILLEGAL bus word is refused at once while the bus is stalled, log entry 21. -/
def Obligations.IllegalWordsAreRefusedAndOnlyMarked : Prop :=
  ∀ (x : StimWord),
    ((∃ e, decode x = .error e) ↔
      wordRsv x ≠ 0#4 ∨
      ¬((wordClass x).toNat ≤ 4 ∨ (wordClass x).toNat = 8) ∨
      ((wordClass x).toNat ≤ 1 ∧ 64 ≤ (wordArg x).toNat) ∨
      ((wordClass x).toNat ≠ 1 ∧ wordData x ≠ 0#32) ∨
      ((wordClass x).toNat = 2 ∧ 4 ≤ (wordArg x).toNat ∧ (wordArg x).toNat ≠ 16) ∨
      (((wordClass x).toNat = 3 ∨ (wordClass x).toNat = 4) ∧ wordArg x ≠ 0#8) ∨
      ((wordClass x).toNat = 8 ∧ 2 ≤ (wordArg x).toNat)) ∧
    (∀ (s : State) (rest : List Turn) (e : Illegal), s.schedule = .arrive x :: rest → decode x = .error e →
      step s = .next { s with
        schedule := rest
        refused := true
        refusals := s.refusals ++ [.illegalStimulus x] })

/-- R212: which stimuli are held, and while what. -/
def Obligations.HoldTable : Prop :=
  ∀ (i : Instr) (s : State), heldNow i s = true ↔
    (∃ data, i = .wrLockUnlock data ∧ s.seq.phase ≠ .idle) ∨
    (i = .seqAdvance ∧ (s.seq.phase = .idle ∨ s.now.toNat < s.seq.endAt.toNat)) ∨
    (i = .eval ∧ (s.seq.phase ≠ .idle ∨ s.now.toNat < s.evalHold.toNat)) ∨
    (i = .tick ∧ s.now.toNat < 2 ^ 63 ∧
      ((s.seq.phase ≠ .idle ∧ s.seq.endAt.toNat ≤ s.now.toNat) ∨ evalProductive s = true))

/-- R8, R212: a held stimulus has no effect but that it waits. Where it waits is the model's, log entry 6. -/
def Obligations.HeldStimulusOnlyWaits : Prop :=
  ∀ (i : Instr) (s : State), heldNow i s = true →
    exec i s = .next { s with waiting := {
      bus := if isBusAccess i then s.waiting.bus ++ [i] else s.waiting.bus
      ticks := if i = .tick then s.waiting.ticks + 1 else s.waiting.ticks
      evals := if i = .eval then s.waiting.evals + 1 else s.waiting.evals
      seqAdvances := if i = .seqAdvance then s.waiting.seqAdvances + 1 else s.waiting.seqAdvances } }

/-- R212, R59 (b): a waiting stimulus whose hold has lifted takes its step at a retry turn, the host's accesses oldest first;
one that is still held stays where it is. These are the model's: the retry turn (log entry 7), that one retry takes one of
the counted waiters or the head of the host's list (log entry 6), that the accesses form a queue (log entry 8), and that a TICK
tried again at 2^63 or later is not held but refused (log entry 25). -/
def Obligations.WaitingStimulusRunsOnceItsHoldLifts : Prop :=
  ∀ (s : State) (rest : List Turn),
    (∀ (i : Instr) (more : List Instr), s.schedule = .retry .bus :: rest → s.waiting.bus = i :: more →
      (heldNow i s = false →
        step s = exec i { s with schedule := rest, waiting := { s.waiting with bus := more } }) ∧
      (heldNow i s = true → step s = .next { s with schedule := rest })) ∧
    (∀ (n : Nat), s.schedule = .retry .tick :: rest → s.waiting.ticks = n + 1 →
      (heldNow .tick s = false →
        step s = exec .tick { s with schedule := rest, waiting := { s.waiting with ticks := n } }) ∧
      (heldNow .tick s = true → step s = .next { s with schedule := rest })) ∧
    (∀ (n : Nat), s.schedule = .retry .eval :: rest → s.waiting.evals = n + 1 →
      (heldNow .eval s = false →
        step s = exec .eval { s with schedule := rest, waiting := { s.waiting with evals := n } }) ∧
      (heldNow .eval s = true → step s = .next { s with schedule := rest })) ∧
    (∀ (n : Nat), s.schedule = .retry .seqAdvance :: rest → s.waiting.seqAdvances = n + 1 →
      (heldNow .seqAdvance s = false →
        step s = exec .seqAdvance { s with schedule := rest, waiting := { s.waiting with seqAdvances := n } }) ∧
      (heldNow .seqAdvance s = true → step s = .next { s with schedule := rest }))

/-- R33, R210, R217: no step faults and none ends the run. It is the model's choice that the answer is a next state for an
ILLEGAL word and for TimeOverflow, both of which R211 refuses (log entry 12), for a held stimulus (log entry 6) and for a state
with no turn left (log entry 13); that there is no fault is log entry 20. -/
def Obligations.EveryStepAnswersANextState : Prop :=
  ∀ (s : State), ∃ t, step s = .next t

/-! ### Encoding -/

/-- R70 to R78: no bit of a stimulus is dropped. -/
def Obligations.DecodeOfEncodeIsTheStimulus : Prop :=
  ∀ (i : Instr), i.wf = true → decode (encode i) = .ok i

/-- R70 to R79: a word spells at most one stimulus and no bit of a word is dropped; a decoded stimulus is well formed. -/
def Obligations.EncodeOfDecodeIsTheWord : Prop :=
  ∀ (x : StimWord) (i : Instr), decode x = .ok i → encode i = x ∧ i.wf = true

/-- R75: the decoder is the rule "the matching row whose mask has the most 1 bits", that row is unique, and only the listed
pairs of rows overlap. -/
def Obligations.DecoderTakesTheMostSpecificRow : Prop :=
  ∀ (x : StimWord),
    (decode x).toOption.map Instr.mnemonic = (mostSpecific (matchingRows x)).map OpRow.mnemonic ∧
    (∀ r ∈ matchingRows x, ∀ q ∈ matchingRows x, r.specificity = q.specificity → r = q) ∧
    (∀ r ∈ matchingRows x, ∀ q ∈ matchingRows x, r.specificity < q.specificity →
      (r.mnemonic = "WR_LOCK_CMD_RSVD" ∧ q.mnemonic = "WR_LOCK_UNLOCK") ∨
      (r.mnemonic = "RD_RESERVED" ∧ q ∈ readRows) ∨
      (r.mnemonic = "WR_IGNORED" ∧ q ∈ writeRows))

/-- Words written out from R77's table and from 95_test_vectors.md decode to the stimuli they stand for. -/
def Obligations.SpecWordsDecode : Prop :=
  decode 0x000E00000000#48 = .ok (.rdChDecode .exit) ∧
  decode 0x000D00000000#48 = .ok (.rdChDlHi .exit) ∧
  decode 0x100F00000003#48 = .ok (.wrChReset .exit 0x3#32) ∧
  decode 0x100FFFFFFFFE#48 = .ok (.wrChCtrlNop .exit 0xFFFFFFFE#32) ∧
  decode 0x101200000111#48 = .ok (.wrLockUnlock 0x111#32) ∧
  decode 0x101200000100#48 = .ok (.wrLockCmdRsvd 0x100#32) ∧
  decode 0x001B00000000#48 = .ok (.rdLastRelockHi .exit) ∧
  decode 0x003F00000000#48 = .ok (.rdReserved 0x3F#6) ∧
  decode 0x10010000001A#48 = .ok (.wrIgnored 0x01#6 0x1A#32) ∧
  decode 0x101000000040#48 = .ok (.wrEvtFlags 0x40#32) ∧
  decode 0x200300000000#48 = .ok (.pinD1Fall .exit) ∧
  decode 0x201000000000#48 = .ok .pinDoorEdge ∧
  decode 0x300000000000#48 = .ok .tick ∧
  decode 0x400000000000#48 = .ok .reset ∧
  decode 0x800100000000#48 = .ok .seqAdvance

/-! ### Capture -/

/-- R101, R102, R103: an edge shifts its bit in, counts up to 255, and sets the deadline to `now + T_BIT`; it writes nothing
else, in every state. That DATA0 appends 0 and DATA1 appends 1 is R73's general knowledge, log entry 17. -/
def Obligations.BitEdgeAppends : Prop :=
  ∀ (c : Dir) (s : State),
    exec (.pinD0Fall c) s = .next { s with
      ch := s.ch.set c
        { buf := (s.ch.get c).buf <<< 1
          cnt := BitVec.ofNat 8 (min 255 ((s.ch.get c).cnt.toNat + 1))
          dlv := true
          dl := s.now + BitVec.ofNat 64 s.cfg.tBit } } ∧
    exec (.pinD1Fall c) s = .next { s with
      ch := s.ch.set c
        { buf := ((s.ch.get c).buf <<< 1) ||| 1#64
          cnt := BitVec.ofNat 8 (min 255 ((s.ch.get c).cnt.toNat + 1))
          dlv := true
          dl := s.now + BitVec.ofNat 64 s.cfg.tBit } }

/-- R13, R81, R101: the edges of `frame C, N, V` on an EMPTY channel leave the N low bits of V in the buffer, most
significant bit first, and a count of N, through the machine's own steps. That DATA0 sends 0 and DATA1 sends 1 is log entry
17. -/
def Obligations.FrameEdgesAssembleTheFrame : Prop :=
  ∀ (s : State) (c : Dir) (n v : Nat) (rest : List Turn),
    1 ≤ n → n ≤ 64 → s.ch.get c = Capture.empty →
    s.schedule = (frameEdges c n v).map (fun i => .arrive (encode i)) ++ rest →
    Host.Core.run Sys2Proof.core n s = .next { s with
      schedule := rest
      ch := s.ch.set c
        { buf := BitVec.ofNat 64 (v % 2 ^ n)
          cnt := BitVec.ofNat 8 n
          dlv := true
          dl := s.now + BitVec.ofNat 64 s.cfg.tBit } }

/-- R105, R114: 26 edges and a read of CH_DECODE give VALID, the facility `V[24:17]` and the card `V[16:1]`. That DATA0
sends 0 and DATA1 sends 1 is log entry 17. -/
def Obligations.CapturedFrameDecodes : Prop :=
  ∀ (s : State) (c : Dir) (v : Nat) (rest : List Turn),
    s.ch.get c = Capture.empty → s.waiting.bus = [] →
    s.schedule = (frameEdges c 26 v).map (fun i => .arrive (encode i)) ++ .arrive (encode (.rdChDecode c)) :: rest →
    ∃ t, Host.Core.run Sys2Proof.core 27 s = .next t ∧ t.schedule = rest ∧
      t.busOut = some (BitVec.ofNat 32 (2 ^ 31 + (v / 2 ^ 17 % 2 ^ 8) * 2 ^ 16 + v / 2 % 2 ^ 16))

/-- R106: the channel reset empties channel `c` in one step, whatever DATA[31:1] is; it writes nothing else, `ready` is then 0,
and a second one changes nothing. -/
def Obligations.ChannelResetEmptiesTheChannel : Prop :=
  ∀ (c : Dir) (data : Word) (s : State), ∃ t, exec (.wrChReset c data) s = .next t ∧
    t = { s with ch := s.ch.set c { buf := 0#64, cnt := 0#8, dlv := false, dl := 0#64 } } ∧
    ready t c = false ∧ exec (.wrChReset c data) t = .next t

/-- R107, R198: the writes that have no effect. -/
def Obligations.IneffectiveWritesChangeNothing : Prop :=
  (∀ (c : Dir) (data : Word) (s : State), exec (.wrChCtrlNop c data) s = .next s) ∧
  (∀ (w : WordIdx) (data : Word) (s : State), exec (.wrIgnored w data) s = .next s) ∧
  (∀ (w : WordIdx) (data : Word), w.toNat ≠ 0x10 → w.toNat ≠ 0x12 →
    (w.toNat = 0x07 ∨ w.toNat = 0x0F → data.getLsbD 0 = false) → ∀ s : State, exec (decodeWrite w data) s = .next s)

/-- R108 to R113: what the channel reads return; they change nothing else. -/
def Obligations.ChannelReadsReturnTheirFields : Prop :=
  ∀ (c : Dir) (s : State),
    exec (.rdChStatus c) s = .next { s with busOut := some (BitVec.ofNat 32
      ((if (s.ch.get c).cnt.toNat = 26 then 4 else 0)
        + (if (s.ch.get c).dlv = true ∧ (s.ch.get c).dl.toNat < s.now.toNat then 2 else 0)
        + (if (s.ch.get c).dlv = true then 1 else 0))) } ∧
    exec (.rdChCount c) s = .next { s with busOut := some (BitVec.ofNat 32 (s.ch.get c).cnt.toNat) } ∧
    exec (.rdChBufLo c) s = .next { s with busOut := some (BitVec.ofNat 32 (s.ch.get c).buf.toNat) } ∧
    exec (.rdChBufHi c) s = .next { s with busOut := some (BitVec.ofNat 32 ((s.ch.get c).buf.toNat / 2 ^ 32)) } ∧
    exec (.rdChDlLo c) s = .next { s with busOut := some (BitVec.ofNat 32 (s.ch.get c).dl.toNat) } ∧
    exec (.rdChDlHi c) s = .next { s with busOut := some (BitVec.ofNat 32 ((s.ch.get c).dl.toNat / 2 ^ 32)) }

/-- R105, R114: CH_DECODE is VALID, facility `buf[24:17]`, card `buf[16:1]` for a count of 26, and 0 for any other. -/
def Obligations.DecodeRegisterIsTheFrameDecoder : Prop :=
  ∀ (c : Dir) (s : State),
    ((s.ch.get c).cnt.toNat = 26 → exec (.rdChDecode c) s = .next { s with busOut := some (BitVec.ofNat 32
      (2 ^ 31 + ((s.ch.get c).buf.toNat / 2 ^ 17 % 2 ^ 8) * 2 ^ 16 + (s.ch.get c).buf.toNat / 2 % 2 ^ 16)) }) ∧
    ((s.ch.get c).cnt.toNat ≠ 26 → exec (.rdChDecode c) s = .next { s with busOut := some 0#32 })

/-- R104: "with the last bit at instant `t`, `ready` first holds when `now = t + T_BIT + 1`": whatever happens elsewhere, as
long as the channel keeps the state the edge left, it is ready exactly when `now` is later than `t + T_BIT`. -/
def Obligations.ReadyOneMillisecondAfterTheTimeout : Prop :=
  ∀ (s t u : State) (c : Dir),
    badParams s.cfg = [] → s.now.toNat ≤ 2 ^ 63 →
    (exec (.pinD0Fall c) s = .next t ∨ exec (.pinD1Fall c) s = .next t) → u.ch.get c = t.ch.get c →
    (ready u c = true ↔ s.now.toNat + s.cfg.tBit < u.now.toNat)

/-- R116 (a) to (c): an edge before the CH_DECODE read makes it return 0, an edge before the reset is lost with the frame,
and an edge after the reset begins a frame of count 1. -/
def Obligations.EdgeRacesHaveTheListedOutcomes : Prop :=
  ∀ (s t : State) (c : Dir) (data : Word) (edge : Instr),
    edge = .pinD0Fall c ∨ edge = .pinD1Fall c → exec edge s = .next t →
    ((s.ch.get c).cnt.toNat = 26 → exec (.rdChDecode c) t = .next { t with busOut := some 0#32 }) ∧
    exec (.wrChReset c data) t = exec (.wrChReset c data) s ∧
    (∀ u, exec (.wrChReset c data) s = .next u → ∃ v, exec edge u = .next v ∧ (v.ch.get c).cnt = 1#8)

/-- R14: a bit edge takes any channel state to RECEIVING, a channel reset or RESET to EMPTY, a TICK takes RECEIVING to READY
when `now` passes the deadline, and nothing else changes the state of the channel. EMPTY is the model's `capturePhase`, which
tests `dlv` = 0 and not R14's `cnt` = 0: the two agree where R13 (i) holds, and elsewhere it is log entry 27. -/
def Obligations.CapturePhaseTransitions : Prop :=
  ∀ (i : Instr) (s t : State) (c : Dir),
    badParams s.cfg = [] → s.now.toNat ≤ 2 ^ 63 → exec i s = .next t →
    (i = .pinD0Fall c ∨ i = .pinD1Fall c → capturePhase t c = .receiving) ∧
    ((∃ data, i = .wrChReset c data) ∨ i = .reset → capturePhase t c = .empty) ∧
    (i = .tick → capturePhase s c = .receiving → (s.ch.get c).dl.toNat < t.now.toNat → capturePhase t c = .ready) ∧
    (capturePhase t c ≠ capturePhase s c →
      i = .pinD0Fall c ∨ i = .pinD1Fall c ∨ (∃ data, i = .wrChReset c data) ∨ i = .reset ∨
      (i = .tick ∧ capturePhase s c = .receiving ∧ capturePhase t c = .ready))

/-- 40_capture.md: "Every rule here acts on channel `c` only and never reads or writes the other channel, the lock state or
the sequencer". Two states that agree on channel `c`, the time and the parameters stay in agreement on channel `c` and on the
value a read returns, and neither changes anything else. -/
def Obligations.CaptureFamilyIsLocalToItsChannel : Prop :=
  ∀ (c : Dir) (data : Word) (i : Instr) (s s' t t' : State),
    i ∈ [.pinD0Fall c, .pinD1Fall c, .wrChReset c data, .wrChCtrlNop c data, .rdChStatus c, .rdChCount c, .rdChBufLo c,
      .rdChBufHi c, .rdChDlLo c, .rdChDlHi c, .rdChDecode c] →
    s.ch.get c = s'.ch.get c → s.now = s'.now → s.cfg = s'.cfg → s.busOut = s'.busOut →
    exec i s = .next t → exec i s' = .next t' →
    t.ch.get c = t'.ch.get c ∧ t.busOut = t'.busOut ∧ t.ch.get (opp c) = s.ch.get (opp c) ∧
    t = { s with ch := t.ch, busOut := t.busOut }

/-! ### Lock driver -/

/-- R141: a door edge changes the sensed level and sets the trigger; two of them give the old level with the trigger set. -/
def Obligations.DoorEdgeTogglesAndTriggers : Prop :=
  ∀ (s : State), ∃ t, exec .pinDoorEdge s = .next t ∧ t = { s with door := !s.door, doorTrig := true } ∧
    ∃ u, exec .pinDoorEdge t = .next u ∧ u = { s with doorTrig := true }

/-- R145, R146, R150: an unlock request while IDLE starts UNLOCK_PERMIT if the opposite lock is not open, else it sets
REJECT_x and nothing moves; while a sequence runs it is held. That the held request stands in `waiting.bus` is the model's, log
entry 6. -/
def Obligations.UnlockRequestStartsOrIsRejected : Prop :=
  ∀ (data : Word) (s : State) (d : Dir), d = (if data.getLsbD 8 then .exit else .entry) →
    (s.seq.phase = .idle → (s.lk.get (opp d)).isOpen = false →
      exec (.wrLockUnlock data) s = .next { s with
        seq := { phase := .drive, dir := d, kind := .unlockPermit, endAt := s.now + BitVec.ofNat 64 s.cfg.tDriveOpen } }) ∧
    (s.seq.phase = .idle → (s.lk.get (opp d)).isOpen = true →
      exec (.wrLockUnlock data) s = .next { s with evtRJ := s.evtRJ.set d true }) ∧
    (s.seq.phase ≠ .idle →
      exec (.wrLockUnlock data) s = .next { s with
        waiting := { s.waiting with bus := s.waiting.bus ++ [.wrLockUnlock data] } })

/-- R147: every LOCK_CMD write whose DATA[3:0] is not 1 sets BAD_CMD and nothing else, while a sequence runs too. -/
def Obligations.ReservedLockCommandsSetBadCmd : Prop :=
  ∀ (data : Word) (s : State),
    (data.toNat % 16 ≠ 1 → decodeWrite 0x12#6 data = .wrLockCmdRsvd data) ∧
    exec (.wrLockCmdRsvd data) s = .next { s with evtBad := true }

/-- R151, R144: SEQ_ADVANCE at or after the end of the drive phase begins the hold phase, if the kind has one. -/
def Obligations.DrivePhaseIsFollowedByHold : Prop :=
  ∀ (s : State) (hold : Nat),
    hold = (if s.seq.kind = .relock then s.cfg.tHoldClose else s.cfg.tHoldOpen) →
    s.seq.phase = .drive → s.seq.endAt.toNat ≤ s.now.toNat → 0 < hold →
    exec .seqAdvance s = .next { s with
      seq := { phase := .hold, dir := s.seq.dir, kind := s.seq.kind, endAt := s.now + BitVec.ofNat 64 hold } }

/-- R151, R153, R154, R163: the end of an UNLOCK_PERMIT sequence makes its direction `Unlocked` with the close deadline
`now + DOOR_TIMEOUT`, and ends the iteration. -/
def Obligations.UnlockPermitCommits : Prop :=
  ∀ (s : State) (d : Dir),
    s.seq.dir = d → s.seq.kind = .unlockPermit → s.seq.endAt.toNat ≤ s.now.toNat →
    (s.seq.phase = .hold ∨ (s.seq.phase = .drive ∧ s.cfg.tHoldOpen = 0)) →
    exec .seqAdvance s = .next { s with
      lk := s.lk.set d
        { isOpen := true, lo := false, cdv := true, cd := s.now + BitVec.ofNat 64 s.cfg.doorTimeout
          luv := (s.lk.get d).luv, lu := (s.lk.get d).lu }
      seq := { phase := .idle, dir := d, kind := .unlockPermit, endAt := 0#64 }
      evalHold := if (s.lk.get (opp d)).lo = true then s.now + BitVec.ofNat 64 s.cfg.pollDelay else s.evalHold }

/-- R151, R153, R155, R163: the end of an UNLOCK_LOCKEDOPEN sequence makes its direction `LockedOpen` with the close deadline
`now + LOCKED_OPEN_TIMEOUT`, sets LOCKED_OPEN_x, and holds EVAL for `POLL_DELAY`. -/
def Obligations.LockedOpenCommits : Prop :=
  ∀ (s : State) (d : Dir),
    s.seq.dir = d → s.seq.kind = .unlockLockedOpen → s.seq.endAt.toNat ≤ s.now.toNat →
    (s.seq.phase = .hold ∨ (s.seq.phase = .drive ∧ s.cfg.tHoldOpen = 0)) →
    exec .seqAdvance s = .next { s with
      lk := s.lk.set d
        { isOpen := true, lo := true, cdv := true, cd := s.now + BitVec.ofNat 64 s.cfg.lockedOpenTimeout
          luv := (s.lk.get d).luv, lu := (s.lk.get d).lu }
      evtLO := s.evtLO.set d true
      seq := { phase := .idle, dir := d, kind := .unlockLockedOpen, endAt := 0#64 }
      evalHold := s.now + BitVec.ofNat 64 s.cfg.pollDelay }

/-- R151, R153, R156, R163: the end of a RELOCK sequence makes its direction `Locked`, clears the close deadline, sets
RELOCK_x, and records the time only if the direction was not `LockedOpen`. -/
def Obligations.RelockCommits : Prop :=
  ∀ (s : State) (d : Dir),
    s.seq.dir = d → s.seq.kind = .relock → s.seq.endAt.toNat ≤ s.now.toNat →
    (s.seq.phase = .hold ∨ (s.seq.phase = .drive ∧ s.cfg.tHoldClose = 0)) →
    exec .seqAdvance s = .next { s with
      lk := s.lk.set d
        { isOpen := false, lo := false, cdv := false, cd := 0#64
          luv := if (s.lk.get d).lo = false then true else (s.lk.get d).luv
          lu := if (s.lk.get d).lo = false then s.now else (s.lk.get d).lu }
      evtRL := s.evtRL.set d true
      seq := { phase := .idle, dir := d, kind := .relock, endAt := 0#64 }
      evalHold := if (s.lk.get (opp d)).lo = true then s.now + BitVec.ofNat 64 s.cfg.pollDelay else s.evalHold }

/-- R157 to R163: an enabled EVAL swings (each `Unlocked` direction's deadline is raised to at least
`now + DOOR_SWING_TIMEOUT` if the trigger was set, and the trigger is consumed), giving `u`; then it starts the first true
entry of R161's list, judged on `u`, or ends the iteration. Nothing else changes. -/
def Obligations.EvalSwingsThenStartsTheFirstCandidate : Prop :=
  ∀ (s u : State),
    badParams s.cfg = [] → s.now.toNat ≤ 2 ^ 63 → s.seq.phase = .idle → s.evalHold.toNat ≤ s.now.toNat →
    u = { s with lk := u.lk, doorTrig := false } →
    (∀ d, u.lk.get d = { s.lk.get d with
      cd := if s.doorTrig = true ∧ (s.lk.get d).isOpen = true ∧ (s.lk.get d).lo = false
        then BitVec.ofNat 64 (max (s.lk.get d).cd.toNat (s.now.toNat + s.cfg.doorSwingTimeout)) else (s.lk.get d).cd }) →
    (LockedOpenDetected u .entry → exec .eval s = .next { u with
      seq := { phase := .drive, dir := .entry, kind := .unlockLockedOpen
               endAt := s.now + BitVec.ofNat 64 s.cfg.tDriveOpen } }) ∧
    (¬LockedOpenDetected u .entry → LockedOpenDetected u .exit → exec .eval s = .next { u with
      seq := { phase := .drive, dir := .exit, kind := .unlockLockedOpen
               endAt := s.now + BitVec.ofNat 64 s.cfg.tDriveOpen } }) ∧
    (¬LockedOpenDetected u .entry → ¬LockedOpenDetected u .exit → RelockDue u .entry → exec .eval s = .next { u with
      seq := { phase := .drive, dir := .entry, kind := .relock
               endAt := s.now + BitVec.ofNat 64 s.cfg.tDriveClose } }) ∧
    (¬LockedOpenDetected u .entry → ¬LockedOpenDetected u .exit → ¬RelockDue u .entry → RelockDue u .exit →
      exec .eval s = .next { u with
        seq := { phase := .drive, dir := .exit, kind := .relock
                 endAt := s.now + BitVec.ofNat 64 s.cfg.tDriveClose } }) ∧
    (¬LockedOpenDetected u .entry → ¬LockedOpenDetected u .exit → ¬RelockDue u .entry → ¬RelockDue u .exit →
      exec .eval s = .next { u with
        evalHold := if s.lk.entry.lo = true ∨ s.lk.exit.lo = true then s.now + BitVec.ofNat 64 s.cfg.pollDelay
          else s.evalHold })

/-- R170: "For every EVAL, the value of `lk[d].cd` after it is at least the value before it", held or not. -/
def Obligations.SwingNeverShortens : Prop :=
  ∀ (s t : State) (d : Dir), exec .eval s = .next t → (s.lk.get d).cd.toNat ≤ (t.lk.get d).cd.toNat

/-- R162, R158: a door edge pending when the close deadline passes keeps the door unlocked: with the trigger set, an EVAL
starts no re-lock of an `Unlocked` direction. -/
def Obligations.PendingDoorEdgeKeepsTheDoorUnlocked : Prop :=
  ∀ (s t : State) (d : Dir),
    badParams s.cfg = [] → s.now.toNat ≤ 2 ^ 63 → s.doorTrig = true → s.seq.phase = .idle →
    (s.lk.get d).isOpen = true → (s.lk.get d).lo = false → exec .eval s = .next t →
    ¬(t.seq.phase = .drive ∧ t.seq.kind = .relock ∧ t.seq.dir = d)

/-- R252, R157: at most one internal step is enabled, and an enabled EVAL that is not productive changes nothing. -/
def Obligations.UnproductiveEvalChangesNothing : Prop :=
  ∀ (s : State),
    ¬(evalHeld s = false ∧ seqAdvanceHeld s = false) ∧
    (evalHeld s = false → evalProductive s = false → exec .eval s = .next s)

/-- R161: in a reachable state no evaluation has a locked-open and a re-lock candidate, nor two re-lock candidates. -/
def Obligations.CandidatesExcludeEachOther : Prop :=
  ∀ (s : State) (d e : Dir), BlockInv s →
    ¬(lockedOpenCand s (sensorOpen s) d = true ∧ relockCand s (sensorOpen s) e = true) ∧
    ¬(relockCand s (sensorOpen s) .entry = true ∧ relockCand s (sensorOpen s) .exit = true)

/-- R20: the actuator levels as a function of the sequencer. -/
def Obligations.ActuatorLevelsFollowTheSequencer : Prop :=
  ∀ (s : State) (d : Dir),
    (s.seq.phase = .drive → s.seq.dir = d → s.seq.kind ≠ .relock → actCode (act s d) = 1#2) ∧
    (s.seq.phase = .drive → s.seq.dir = d → s.seq.kind = .relock → actCode (act s d) = 2#2) ∧
    (s.seq.phase = .hold → s.seq.dir = d → actCode (act s d) = 3#2) ∧
    (s.seq.phase = .idle ∨ s.seq.dir ≠ d → actCode (act s d) = 0#2)

/-- R28, R164: LOCK_STATUS, bit by bit; the read changes nothing else. -/
def Obligations.LockStatusBits : Prop :=
  ∀ (s : State), ∃ v : Word, exec .rdLockStatus s = .next { s with busOut := some v } ∧
    v.getLsbD 0 = s.lk.entry.isOpen ∧ v.getLsbD 1 = s.lk.entry.lo ∧
    v.getLsbD 2 = s.lk.exit.isOpen ∧ v.getLsbD 3 = s.lk.exit.lo ∧
    (v.getLsbD 4 = true ↔ s.door = s.cfg.sensorOpenLevel) ∧
    (v.getLsbD 5 = true ↔ s.seq.phase ≠ .idle) ∧
    (v.getLsbD 6 = true ↔ s.seq.dir = .exit) ∧
    (v.getLsbD 7 = true ↔ s.now.toNat < s.evalHold.toNat) ∧
    v.extractLsb' 8 2 = (match s.seq.phase with | .idle => 0#2 | .drive => 1#2 | .hold => 2#2) ∧
    v.extractLsb' 10 2 = actCode (act s .entry) ∧ v.extractLsb' 12 2 = actCode (act s .exit) ∧
    v.extractLsb' 14 2 = (match s.seq.kind with | .unlockPermit => 0#2 | .unlockLockedOpen => 1#2 | .relock => 2#2) ∧
    v.getLsbD 16 = s.lk.entry.cdv ∧ v.getLsbD 17 = s.lk.exit.cdv ∧
    v.getLsbD 18 = s.lk.entry.luv ∧ v.getLsbD 19 = s.lk.exit.luv ∧
    (∀ k, 20 ≤ k → v.getLsbD k = false)

/-- R165 to R168: the lock-time reads; they change nothing else. -/
def Obligations.LockTimeReadsReturnTheirWords : Prop :=
  ∀ (d : Dir) (s : State),
    exec (.rdCloseDlLo d) s = .next { s with busOut := some (BitVec.ofNat 32 (s.lk.get d).cd.toNat) } ∧
    exec (.rdCloseDlHi d) s = .next { s with busOut := some (BitVec.ofNat 32 ((s.lk.get d).cd.toNat / 2 ^ 32)) } ∧
    exec (.rdLastRelockLo d) s = .next { s with busOut := some (BitVec.ofNat 32 (s.lk.get d).lu.toNat) } ∧
    exec (.rdLastRelockHi d) s = .next { s with busOut := some (BitVec.ofNat 32 ((s.lk.get d).lu.toNat / 2 ^ 32)) }

/-- R152, R191, R251: an unlock or re-lock sequence that has just started on `d`, with `T` ms of drive and `H` ms of hold,
run by its TICKs and its SEQ_ADVANCEs: the actuator is at its drive level for `T` ms, at HOLD for `H` ms, then OFF, the
other actuator is OFF throughout, and the sequence commits at `now + T + H`. With `H` = 0 there is no HOLD phase. -/
def Obligations.SequenceHasTheActuatorWaveform : Prop :=
  ∀ (s : State) (drive hold : Nat) (rest : List Turn),
    drive = driveTime s.cfg s.seq.kind → hold = holdTime s.cfg s.seq.kind → s.seq.phase = .drive →
    s.seq.endAt = s.now + BitVec.ofNat 64 drive → s.now.toNat + drive + hold ≤ 2 ^ 63 →
    (0 < hold →
      s.schedule = List.replicate drive (.arrive 0x300000000000#48) ++
        .arrive 0x800100000000#48 :: (List.replicate hold (.arrive 0x300000000000#48) ++
        .arrive 0x800100000000#48 :: rest) →
      ∀ n, n ≤ drive + hold + 2 → ∃ t, Host.Core.run Sys2Proof.core n s = .next t ∧ act t (opp s.seq.dir) = .off ∧
        (n ≤ drive → t.now.toNat = s.now.toNat + n ∧
          act t s.seq.dir = (if s.seq.kind = .relock then .driveClosed else .driveOpen)) ∧
        (drive < n → n < drive + hold + 2 → t.now.toNat = s.now.toNat + (n - 1) ∧ act t s.seq.dir = .hold) ∧
        (n = drive + hold + 2 →
          t.now.toNat = s.now.toNat + drive + hold ∧ act t s.seq.dir = .off ∧ t.seq.phase = .idle ∧
          ((t.lk.get s.seq.dir).isOpen = true ↔ s.seq.kind ≠ .relock) ∧ t.schedule = rest)) ∧
    (hold = 0 →
      s.schedule = List.replicate drive (.arrive 0x300000000000#48) ++ .arrive 0x800100000000#48 :: rest →
      ∀ n, n ≤ drive + 1 → ∃ t, Host.Core.run Sys2Proof.core n s = .next t ∧ act t (opp s.seq.dir) = .off ∧
        (n ≤ drive → t.now.toNat = s.now.toNat + n ∧
          act t s.seq.dir = (if s.seq.kind = .relock then .driveClosed else .driveOpen)) ∧
        (n = drive + 1 →
          t.now.toNat = s.now.toNat + drive ∧ act t s.seq.dir = .off ∧ t.seq.phase = .idle ∧
          ((t.lk.get s.seq.dir).isOpen = true ↔ s.seq.kind ≠ .relock) ∧ t.schedule = rest))

/-- R247: a request for `d` held behind an UNLOCK_PERMIT of the opposite direction that is at the end of its HOLD phase is
judged when it takes its step: the unlock commits first, so the request is rejected. The open bit of `d` stays;
of its other lock fields nothing is claimed. Other unlock kinds, and a commit from DRIVE, are not covered. The queue and the
retry turn are the model's: log entries 6, 7 and 8. -/
def Obligations.HeldRequestIsJudgedWhenItRuns : Prop :=
  ∀ (s : State) (data : Word) (d : Dir) (more : List Instr) (rest : List Turn),
    d = (if data.getLsbD 8 then .exit else .entry) →
    s.seq.phase = .hold → s.seq.kind = .unlockPermit → s.seq.dir = opp d → s.seq.endAt.toNat ≤ s.now.toNat →
    s.waiting.bus = .wrLockUnlock data :: more →
    s.schedule = .arrive 0x800100000000#48 :: .retry .bus :: rest →
    ∃ t, Host.Core.run Sys2Proof.core 2 s = .next t ∧ t.evtRJ.get d = true ∧ t.seq.phase = .idle ∧
      (t.lk.get (opp d)).isOpen = true ∧ (t.lk.get d).isOpen = (s.lk.get d).isOpen ∧ t.waiting.bus = more

/-- R240: a WR_LOCK_UNLOCK held by a running sequence stays pending across the RESET and then starts UNLOCK_PERMIT. That
the accesses behind it stay waiting too is log entry 9 (DEDUCED), where it waits log entry 6, and the retry turn log entry 7. -/
def Obligations.HeldRequestSurvivesReset : Prop :=
  ∀ (s : State) (data : Word) (d : Dir) (more : List Instr) (rest : List Turn),
    d = (if data.getLsbD 8 then .exit else .entry) →
    s.seq.phase ≠ .idle → s.waiting.bus = .wrLockUnlock data :: more →
    s.schedule = .arrive 0x400000000000#48 :: .retry .bus :: rest →
    ∃ t, Host.Core.run Sys2Proof.core 2 s = .next t ∧
      t.seq = { phase := .drive, dir := d, kind := .unlockPermit, endAt := BitVec.ofNat 64 s.cfg.tDriveOpen } ∧
      t.now = 0#64 ∧ t.waiting.bus = more

/-! ### Timebase and bus -/

/-- R190: TICK is refused from 2^63 on, held while an internal step is pending, and else adds 1 to `now`; it changes nothing
else. The record list is the model's, log entry 12, and so is the count of waiting TICKs, log entry 6. -/
def Obligations.TickAdvancesTimeOrWaits : Prop :=
  ∀ (s : State),
    (2 ^ 63 ≤ s.now.toNat → exec .tick s = .next { s with
      refused := true
      refusals := s.refusals ++ [.timeOverflow s.now] }) ∧
    (s.now.toNat < 2 ^ 63 → internalPending s = true → exec .tick s = .next { s with
      waiting := { s.waiting with ticks := s.waiting.ticks + 1 } }) ∧
    (s.now.toNat < 2 ^ 63 → internalPending s = false → exec .tick s = .next { s with
      now := BitVec.ofNat 64 (s.now.toNat + 1) })

/-- R191, R157: when an internal step is pending. -/
def Obligations.InternalPendingIsTheSchedulingRule : Prop :=
  ∀ (s : State), badParams s.cfg = [] →
    (internalPending s = true ↔
      (s.seq.phase ≠ .idle ∧ s.seq.endAt.toNat ≤ s.now.toNat) ∨
      (s.seq.phase = .idle ∧ s.evalHold.toNat ≤ s.now.toNat ∧
        (s.doorTrig = true ∨ s.lk.entry.lo = true ∨ s.lk.exit.lo = true ∨
          LockedOpenDetected s .entry ∨ LockedOpenDetected s .exit ∨ RelockDue s .entry ∨ RelockDue s .exit)))

/-- R191, R252: "at most two internal steps run before `internalPending` is false again", so the hold on TICK is always
lifted, and a run that has not set `refused` has an end state. That `settle` leaves waiting stimuli is log entry 28. -/
def Obligations.AtMostTwoInternalStepsUntilQuiet : Prop :=
  ∀ (s : State), BlockInv s → internalPending (settle s) = false

/-- R193, R194: the reads of `now`; they change nothing else. -/
def Obligations.NowReadsReturnItsWords : Prop :=
  ∀ (s : State),
    exec .rdNowLo s = .next { s with busOut := some (BitVec.ofNat 32 s.now.toNat) } ∧
    exec .rdNowHi s = .next { s with busOut := some (BitVec.ofNat 32 (s.now.toNat / 2 ^ 32)) }

/-- R27, R195: EVT_FLAGS, bit by bit; the read clears nothing and changes nothing else. -/
def Obligations.EventFlagBits : Prop :=
  ∀ (s : State), ∃ v : Word, exec .rdEvtFlags s = .next { s with busOut := some v } ∧
    (v.getLsbD 0 = true ↔ s.ch.entry.dlv = true ∧ s.ch.entry.dl.toNat < s.now.toNat) ∧
    (v.getLsbD 1 = true ↔ s.ch.exit.dlv = true ∧ s.ch.exit.dl.toNat < s.now.toNat) ∧
    v.getLsbD 2 = s.doorTrig ∧ v.getLsbD 3 = s.evtBad ∧
    v.getLsbD 4 = s.evtLO.entry ∧ v.getLsbD 5 = s.evtLO.exit ∧
    v.getLsbD 6 = s.evtRL.entry ∧ v.getLsbD 7 = s.evtRL.exit ∧
    v.getLsbD 8 = s.evtRJ.entry ∧ v.getLsbD 9 = s.evtRJ.exit ∧
    (∀ k, 10 ≤ k → v.getLsbD k = false)

/-- R196: a W1C write clears exactly the flags its mask names; DOOR_TRIG and everything else stay. -/
def Obligations.WriteOneClearsExactlyTheNamedFlags : Prop :=
  ∀ (data : Word) (s : State), exec (.wrEvtFlags data) s = .next { s with
    evtBad := if data.getLsbD 3 = true then false else s.evtBad
    evtLO :=
      { entry := if data.getLsbD 4 = true then false else s.evtLO.entry
        exit := if data.getLsbD 5 = true then false else s.evtLO.exit }
    evtRL :=
      { entry := if data.getLsbD 6 = true then false else s.evtRL.entry
        exit := if data.getLsbD 7 = true then false else s.evtRL.exit }
    evtRJ :=
      { entry := if data.getLsbD 8 = true then false else s.evtRJ.entry
        exit := if data.getLsbD 9 = true then false else s.evtRJ.exit } }

/-- R197: the words that only RD_RESERVED reads return 0, and the read changes nothing else. -/
def Obligations.ReservedReadsReturnZero : Prop :=
  (∀ (w : WordIdx) (s : State), exec (.rdReserved w) s = .next { s with busOut := some 0#32 }) ∧
  (∀ (w : WordIdx), decodeRead w = .rdReserved w ↔
    w.toNat = 0x07 ∨ w.toNat = 0x0F ∨ w.toNat = 0x12 ∨ w.toNat = 0x13 ∨ 0x1E ≤ w.toNat)

/-- R24, R51, R56: a BUS_READ of any word returns the content the register map gives that word, and leaves all state
unchanged. -/
def Obligations.BusReadReturnsTheRegisterMap : Prop :=
  ∀ (w : WordIdx) (s : State), exec (decodeRead w) s = .next { s with busOut := some (memRead s w) }

/-! ### Reset and power-on -/

/-- R240, R36: RESET writes every field to its reset value in every state; `door` and `refused` stay.
Every EVT_FLAGS bit reads 0 afterwards and LOCK_STATUS reads SENSOR_OPEN alone; a second RESET changes only `now`. That the
bus value and the turns stay is the model's choice, log entry 10. That everything that waits stays is the model's reading, log
entry 9: R240 says so of a held WR_LOCK_UNLOCK only. -/
def Obligations.ResetSetsEveryField : Prop :=
  ∀ (s : State), ∃ t, exec .reset s = .next t ∧
    t = { s with
      ch :=
        { entry := { buf := 0#64, cnt := 0#8, dlv := false, dl := 0#64 }
          exit := { buf := 0#64, cnt := 0#8, dlv := false, dl := 0#64 } }
      lk :=
        { entry := { isOpen := false, lo := false, cdv := false, cd := 0#64, luv := false, lu := 0#64 }
          exit := { isOpen := false, lo := false, cdv := false, cd := 0#64, luv := false, lu := 0#64 } }
      seq := { phase := .idle, dir := .entry, kind := .unlockPermit, endAt := 0#64 }
      doorTrig := false
      evtBad := false
      evtLO := { entry := false, exit := false }
      evtRL := { entry := false, exit := false }
      evtRJ := { entry := false, exit := false }
      evalHold := 0#64
      now := 0#64 } ∧
    exec .rdEvtFlags t = .next { t with busOut := some 0#32 } ∧
    exec .rdLockStatus t = .next { t with
      busOut := some (if t.door = t.cfg.sensorOpenLevel then 0x10#32 else 0#32) } ∧
    act t .entry = .off ∧ act t .exit = .off ∧ exec .reset t = .next t

/-- R241, R242: power-on is the state RESET leaves, with `refused` = 0, for every configuration in range and door level. -/
def Obligations.PowerOnIsTheResetState : Prop :=
  ∀ (g : Config) (door : Bool) (schedule : List Turn), badParams g = [] →
    ∃ s, s = State.powerOn g door schedule ∧ s.refused = false ∧ s.refusals = [] ∧ s.door = door ∧ s.cfg = g ∧
      s.schedule = schedule ∧ s.waiting = { bus := [], ticks := 0, evals := 0, seqAdvances := 0 } ∧
      s.now = 0#64 ∧ exec .reset s = .next s

/-- R211 code 3, R5: a parameter outside its range is refused by name at model construction. The ranges of the four
parameters that have a default are DEDUCED, log entry 3; recording every such parameter is log entry 14. -/
def Obligations.BadConfigurationsAreRefused : Prop :=
  ∀ (g : Config) (door : Bool) (schedule : List Turn),
    ((State.powerOn g door schedule).refused = true ↔
      ¬((1 ≤ g.tBit ∧ g.tBit ≤ 2 ^ 32 - 1) ∧ (1 ≤ g.pollDelay ∧ g.pollDelay ≤ 2 ^ 32 - 1) ∧
        (1 ≤ g.tDriveOpen ∧ g.tDriveOpen ≤ 2 ^ 32 - 1) ∧ (1 ≤ g.tDriveClose ∧ g.tDriveClose ≤ 2 ^ 32 - 1) ∧
        g.tHoldOpen ≤ 2 ^ 32 - 1 ∧ g.tHoldClose ≤ 2 ^ 32 - 1 ∧ g.doorTimeout ≤ 2 ^ 32 - 1 ∧
        g.doorSwingTimeout ≤ 2 ^ 32 - 1 ∧ g.obstructionWindow ≤ 2 ^ 32 - 1 ∧ g.lockedOpenTimeout ≤ 2 ^ 32 - 1)) ∧
    (State.powerOn g door schedule).refusals = (badParams g).map .badConfig

/-! ### Invariants and whole-machine rules -/

/-- The invariant holds at power-on, for the implementation and for every configuration in range. -/
def Obligations.PowerOnHasTheInvariant : Prop :=
  BlockInv State.reset ∧
  ∀ (g : Config) (door : Bool) (schedule : List Turn), badParams g = [] → BlockInv (State.powerOn g door schedule)

/-- Every step from a state with the invariant gives a state with it, whatever turn it takes. -/
def Obligations.EveryStepKeepsTheInvariant : Prop :=
  ∀ (s t : State), BlockInv s → step s = .next t → BlockInv t

/-- R169: in every reachable state not both locks are open. -/
def Obligations.NeverBothDoorsOpen : Prop :=
  ∀ (s : State), Reachable s → ¬(s.lk.entry.isOpen = true ∧ s.lk.exit.isOpen = true)

/-- R13 (i) to (iii): the capture invariants in every reachable state, for both channels. -/
def Obligations.CaptureInvariantsOfReachableStates : Prop :=
  ∀ (s : State) (c : Dir), Reachable s →
    ((s.ch.get c).dlv = true ↔ (s.ch.get c).cnt ≠ 0#8) ∧
    ((s.ch.get c).cnt.toNat ≤ 63 → (s.ch.get c).buf.toNat < 2 ^ (s.ch.get c).cnt.toNat) ∧
    ((s.ch.get c).dlv = false → (s.ch.get c).dl = 0#64)

/-- R15, R153, R171: the lock state of a direction changes only by RESET, to `Locked`, and by the commit of its own
sequence: to `Unlocked` by UNLOCK_PERMIT, from `Locked` to `LockedOpen` by UNLOCK_LOCKEDOPEN, to `Locked` by RELOCK. -/
def Obligations.LockStateChangesOnlyByCommitOrReset : Prop :=
  ∀ (i : Instr) (s t : State) (d : Dir), BlockInv s → exec i s = .next t →
    lockMode (t.lk.get d) ≠ lockMode (s.lk.get d) →
    (i = .reset ∧ lockMode (t.lk.get d) = some .locked) ∨
    (i = .seqAdvance ∧ s.seq.phase ≠ .idle ∧ s.seq.endAt.toNat ≤ s.now.toNat ∧ s.seq.dir = d ∧ t.seq.phase = .idle ∧
      ((s.seq.kind = .unlockPermit ∧ lockMode (t.lk.get d) = some .unlocked) ∨
       (s.seq.kind = .unlockLockedOpen ∧ lockMode (s.lk.get d) = some .locked ∧
        lockMode (t.lk.get d) = some .lockedOpen) ∨
       (s.seq.kind = .relock ∧ lockMode (t.lk.get d) = some .locked)))

/-- R30, R190: only a TICK moves time, by 1, and only a RESET sets it, to 0. -/
def Obligations.OnlyTickAndResetWriteNow : Prop :=
  ∀ (i : Instr) (s t : State), exec i s = .next t → t.now ≠ s.now →
    (i = .tick ∧ t.now.toNat = s.now.toNat + 1) ∨ (i = .reset ∧ t.now = 0#64)

/-- R65: capture state is written only by the channel's own edges, its channel reset, and RESET. -/
def Obligations.OnlyEdgesAndResetsWriteCaptureState : Prop :=
  ∀ (i : Instr) (s t : State) (c : Dir), exec i s = .next t → t.ch.get c ≠ s.ch.get c →
    i = .pinD0Fall c ∨ i = .pinD1Fall c ∨ (∃ data, i = .wrChReset c data) ∨ i = .reset

/-- R27, R34: only the steps of R27's "set by" and "cleared by" columns write the stored flags. -/
def Obligations.FlagsAreWrittenOnlyByTheListedSteps : Prop :=
  ∀ (i : Instr) (s t : State) (d : Dir), exec i s = .next t → i ≠ .reset →
    (t.doorTrig = true → s.doorTrig = false → i = .pinDoorEdge) ∧
    (t.doorTrig = false → s.doorTrig = true → i = .eval) ∧
    (t.evtBad = true → s.evtBad = false → ∃ data, i = .wrLockCmdRsvd data) ∧
    (t.evtLO.get d = true → s.evtLO.get d = false →
      i = .seqAdvance ∧ s.seq.kind = .unlockLockedOpen ∧ s.seq.dir = d) ∧
    (t.evtRL.get d = true → s.evtRL.get d = false → i = .seqAdvance ∧ s.seq.kind = .relock ∧ s.seq.dir = d) ∧
    (t.evtRJ.get d = true → s.evtRJ.get d = false →
      ∃ data, i = .wrLockUnlock data ∧ (s.lk.get (opp d)).isOpen = true) ∧
    ((t.evtBad = false ∧ s.evtBad = true) ∨ (t.evtLO.get d = false ∧ s.evtLO.get d = true) ∨
      (t.evtRL.get d = false ∧ s.evtRL.get d = true) ∨ (t.evtRJ.get d = false ∧ s.evtRJ.get d = true) →
      ∃ data, i = .wrEvtFlags data)

/-- R33: "No step clears it, not even RESET". That no step changes the parameters either is the model's, log entry 1. -/
def Obligations.RefusedMarkIsSticky : Prop :=
  ∀ (s t : State), step s = .next t → (s.refused = true → t.refused = true) ∧ t.cfg = s.cfg
end

