-- ==== Sys2Proof/Laws/Decode.lean ====
section
/-! SUPPORT. The fields of an encoded word, and of any word, as its head and DATA. -/

namespace Sys2Proof

/-- A word is its top 16 bits and its DATA. -/
theorem stimWord_split (x : StimWord) : stimWord (x.extractLsb' 32 16) (wordData x) = x := by
  unfold stimWord wordData
  apply BitVec.eq_of_toNat_eq
  rw [BitVec.toNat_append, BitVec.extractLsb'_toNat, BitVec.extractLsb'_toNat, ← Nat.shiftLeft_add_eq_or_of_lt]
  · rw [Nat.shiftLeft_eq, Nat.shiftRight_eq_div_pow, Nat.shiftRight_zero]
    have := x.isLt
    omega
  · exact Nat.mod_lt _ (by decide)

theorem stimWord_toNat (h : BitVec 16) (d : Word) : (stimWord h d).toNat = h.toNat * 2 ^ 32 + d.toNat := by
  unfold stimWord
  rw [BitVec.toNat_append, ← Nat.shiftLeft_add_eq_or_of_lt d.isLt, Nat.shiftLeft_eq]

/-- A field in the top 16 bits of a word. -/
theorem stimWord_extract_head (h : BitVec 16) (d : Word) (k n : Nat) :
    (stimWord h d).extractLsb' (32 + k) n = h.extractLsb' k n := by
  apply BitVec.eq_of_toNat_eq
  rw [BitVec.extractLsb'_toNat, BitVec.extractLsb'_toNat, stimWord_toNat, Nat.shiftRight_add]
  have hd := d.isLt
  have e : (h.toNat * 2 ^ 32 + d.toNat) >>> 32 = h.toNat := by
    rw [Nat.shiftRight_eq_div_pow]; omega
  rw [e]

@[simp] theorem wordClass_stimWord (h : BitVec 16) (d : Word) : wordClass (stimWord h d) = h.extractLsb' 12 4 :=
  stimWord_extract_head h d 12 4

@[simp] theorem wordRsv_stimWord (h : BitVec 16) (d : Word) : wordRsv (stimWord h d) = h.extractLsb' 8 4 :=
  stimWord_extract_head h d 8 4

@[simp] theorem wordArg_stimWord (h : BitVec 16) (d : Word) : wordArg (stimWord h d) = h.extractLsb' 0 8 :=
  stimWord_extract_head h d 0 8

@[simp] theorem wordData_stimWord (h : BitVec 16) (d : Word) : wordData (stimWord h d) = d := by
  apply BitVec.eq_of_toNat_eq
  unfold wordData
  rw [BitVec.extractLsb'_toNat, stimWord_toNat, Nat.shiftRight_zero]
  have hd := d.isLt
  omega

/-- Decoding a word given by its head and DATA. -/
theorem decode_stimWord (h : BitVec 16) (d : Word) :
    decode (stimWord h d) = decodeFields (h.extractLsb' 12 4) (h.extractLsb' 8 4) (h.extractLsb' 0 8) d := by
  simp only [decode, wordClass_stimWord, wordRsv_stimWord, wordArg_stimWord, wordData_stimWord]

/-- A head is CLASS, RSV and ARG. -/
theorem head_split (h : BitVec 16) : (h.extractLsb' 12 4 ++ h.extractLsb' 8 4 ++ h.extractLsb' 0 8 : BitVec 16) = h := by
  apply BitVec.eq_of_toNat_eq
  simp only [BitVec.toNat_append, BitVec.extractLsb'_toNat, Nat.shiftRight_zero]
  rw [← Nat.shiftLeft_add_eq_or_of_lt (Nat.mod_lt _ (by decide)), ← Nat.shiftLeft_add_eq_or_of_lt (Nat.mod_lt _ (by decide))]
  simp only [Nat.shiftLeft_eq, Nat.shiftRight_eq_div_pow]
  have := h.isLt
  omega

/-- Words are equal when their heads and their DATA are. -/
theorem stimWord_inj {h h' : BitVec 16} {d d' : Word} (e : stimWord h d = stimWord h' d') : h = h' ∧ d = d' := by
  have t := congrArg BitVec.toNat e
  rw [stimWord_toNat, stimWord_toNat] at t
  have := d.isLt
  have := d'.isLt
  constructor <;> apply BitVec.eq_of_toNat_eq <;> omega

/-- Masking works on the head and on DATA apart. -/
theorem stimWord_and (h m : BitVec 16) (d n : Word) : stimWord h d &&& stimWord m n = stimWord (h &&& m) (d &&& n) := by
  unfold stimWord
  refine BitVec.eq_of_getLsbD_eq fun k _ => ?_
  rw [BitVec.getLsbD_and, BitVec.getLsbD_append, BitVec.getLsbD_append, BitVec.getLsbD_append]
  split <;> simp

end Sys2Proof
end

