-- ==== Sys2Proof/Laws/State.lean ====
section
/-! SUPPORT. Field lemmas: what each named update leaves in each field of State, true by rfl and used by simp, so that no proof
unfolds a record update. -/

namespace Sys2Proof.Machine

/-! ### The two instances -/

@[simp] theorem perDir_get_set_same {α : Type} (p : PerDir α) (d : Dir) (x : α) : (p.set d x).get d = x := by
  cases d <;> rfl

@[simp] theorem perDir_get_set_opp {α : Type} (p : PerDir α) (d : Dir) (x : α) : (p.set d x).get (opp d) = p.get (opp d) := by
  cases d <;> rfl

theorem perDir_get_set_other {α : Type} (p : PerDir α) {d e : Dir} (h : e ≠ d) (x : α) : (p.set d x).get e = p.get e := by
  cases d <;> cases e <;> first | rfl | exact absurd rfl h

@[simp] theorem perDir_set_entry_entry {α : Type} (p : PerDir α) (x : α) : (p.set .entry x).entry = x := rfl
@[simp] theorem perDir_set_entry_exit {α : Type} (p : PerDir α) (x : α) : (p.set .entry x).exit = p.exit := rfl
@[simp] theorem perDir_set_exit_exit {α : Type} (p : PerDir α) (x : α) : (p.set .exit x).exit = x := rfl
@[simp] theorem perDir_set_exit_entry {α : Type} (p : PerDir α) (x : α) : (p.set .exit x).entry = p.entry := rfl
@[simp] theorem perDir_get_entry {α : Type} (p : PerDir α) : p.get .entry = p.entry := rfl
@[simp] theorem perDir_get_exit {α : Type} (p : PerDir α) : p.get .exit = p.exit := rfl

/-- Two instances are equal when both are. -/
theorem perDir_ext {α : Type} {p q : PerDir α} (h : ∀ d, p.get d = q.get d) : p = q := by
  cases p
  cases q
  congr 1
  · exact h .entry
  · exact h .exit

@[simp] theorem opp_opp (d : Dir) : opp (opp d) = d := by cases d <;> rfl

@[simp] theorem opp_ne (d : Dir) : opp d ≠ d := by cases d <;> decide

@[simp] theorem dir_ofBit_bit (d : Dir) : Dir.ofBit d.bit = d := by cases d <;> rfl

@[simp] theorem dir_bit_ofBit (b : Bool) : (Dir.ofBit b).bit = b := by cases b <;> rfl

/-! ### setCh -/

@[simp] theorem setCh_ch (s : State) (c : Dir) (x : Capture) : (s.setCh c x).ch = s.ch.set c x := rfl
@[simp] theorem setCh_lk (s : State) (c : Dir) (x : Capture) : (s.setCh c x).lk = s.lk := rfl
@[simp] theorem setCh_seq (s : State) (c : Dir) (x : Capture) : (s.setCh c x).seq = s.seq := rfl
@[simp] theorem setCh_door (s : State) (c : Dir) (x : Capture) : (s.setCh c x).door = s.door := rfl
@[simp] theorem setCh_doorTrig (s : State) (c : Dir) (x : Capture) : (s.setCh c x).doorTrig = s.doorTrig := rfl
@[simp] theorem setCh_evtBad (s : State) (c : Dir) (x : Capture) : (s.setCh c x).evtBad = s.evtBad := rfl
@[simp] theorem setCh_evtLO (s : State) (c : Dir) (x : Capture) : (s.setCh c x).evtLO = s.evtLO := rfl
@[simp] theorem setCh_evtRL (s : State) (c : Dir) (x : Capture) : (s.setCh c x).evtRL = s.evtRL := rfl
@[simp] theorem setCh_evtRJ (s : State) (c : Dir) (x : Capture) : (s.setCh c x).evtRJ = s.evtRJ := rfl
@[simp] theorem setCh_evalHold (s : State) (c : Dir) (x : Capture) : (s.setCh c x).evalHold = s.evalHold := rfl
@[simp] theorem setCh_now (s : State) (c : Dir) (x : Capture) : (s.setCh c x).now = s.now := rfl
@[simp] theorem setCh_refused (s : State) (c : Dir) (x : Capture) : (s.setCh c x).refused = s.refused := rfl
@[simp] theorem setCh_refusals (s : State) (c : Dir) (x : Capture) : (s.setCh c x).refusals = s.refusals := rfl
@[simp] theorem setCh_waiting (s : State) (c : Dir) (x : Capture) : (s.setCh c x).waiting = s.waiting := rfl
@[simp] theorem setCh_busOut (s : State) (c : Dir) (x : Capture) : (s.setCh c x).busOut = s.busOut := rfl
@[simp] theorem setCh_schedule (s : State) (c : Dir) (x : Capture) : (s.setCh c x).schedule = s.schedule := rfl
@[simp] theorem setCh_cfg (s : State) (c : Dir) (x : Capture) : (s.setCh c x).cfg = s.cfg := rfl

/-! ### setLk -/

@[simp] theorem setLk_ch (s : State) (d : Dir) (x : Lock) : (s.setLk d x).ch = s.ch := rfl
@[simp] theorem setLk_lk (s : State) (d : Dir) (x : Lock) : (s.setLk d x).lk = s.lk.set d x := rfl
@[simp] theorem setLk_seq (s : State) (d : Dir) (x : Lock) : (s.setLk d x).seq = s.seq := rfl
@[simp] theorem setLk_door (s : State) (d : Dir) (x : Lock) : (s.setLk d x).door = s.door := rfl
@[simp] theorem setLk_doorTrig (s : State) (d : Dir) (x : Lock) : (s.setLk d x).doorTrig = s.doorTrig := rfl
@[simp] theorem setLk_evtBad (s : State) (d : Dir) (x : Lock) : (s.setLk d x).evtBad = s.evtBad := rfl
@[simp] theorem setLk_evtLO (s : State) (d : Dir) (x : Lock) : (s.setLk d x).evtLO = s.evtLO := rfl
@[simp] theorem setLk_evtRL (s : State) (d : Dir) (x : Lock) : (s.setLk d x).evtRL = s.evtRL := rfl
@[simp] theorem setLk_evtRJ (s : State) (d : Dir) (x : Lock) : (s.setLk d x).evtRJ = s.evtRJ := rfl
@[simp] theorem setLk_evalHold (s : State) (d : Dir) (x : Lock) : (s.setLk d x).evalHold = s.evalHold := rfl
@[simp] theorem setLk_now (s : State) (d : Dir) (x : Lock) : (s.setLk d x).now = s.now := rfl
@[simp] theorem setLk_refused (s : State) (d : Dir) (x : Lock) : (s.setLk d x).refused = s.refused := rfl
@[simp] theorem setLk_refusals (s : State) (d : Dir) (x : Lock) : (s.setLk d x).refusals = s.refusals := rfl
@[simp] theorem setLk_waiting (s : State) (d : Dir) (x : Lock) : (s.setLk d x).waiting = s.waiting := rfl
@[simp] theorem setLk_busOut (s : State) (d : Dir) (x : Lock) : (s.setLk d x).busOut = s.busOut := rfl
@[simp] theorem setLk_schedule (s : State) (d : Dir) (x : Lock) : (s.setLk d x).schedule = s.schedule := rfl
@[simp] theorem setLk_cfg (s : State) (d : Dir) (x : Lock) : (s.setLk d x).cfg = s.cfg := rfl

/-! ### setSeq -/

@[simp] theorem setSeq_ch (s : State) (q : Sequencer) : (s.setSeq q).ch = s.ch := rfl
@[simp] theorem setSeq_lk (s : State) (q : Sequencer) : (s.setSeq q).lk = s.lk := rfl
@[simp] theorem setSeq_seq (s : State) (q : Sequencer) : (s.setSeq q).seq = q := rfl
@[simp] theorem setSeq_door (s : State) (q : Sequencer) : (s.setSeq q).door = s.door := rfl
@[simp] theorem setSeq_doorTrig (s : State) (q : Sequencer) : (s.setSeq q).doorTrig = s.doorTrig := rfl
@[simp] theorem setSeq_evtBad (s : State) (q : Sequencer) : (s.setSeq q).evtBad = s.evtBad := rfl
@[simp] theorem setSeq_evtLO (s : State) (q : Sequencer) : (s.setSeq q).evtLO = s.evtLO := rfl
@[simp] theorem setSeq_evtRL (s : State) (q : Sequencer) : (s.setSeq q).evtRL = s.evtRL := rfl
@[simp] theorem setSeq_evtRJ (s : State) (q : Sequencer) : (s.setSeq q).evtRJ = s.evtRJ := rfl
@[simp] theorem setSeq_evalHold (s : State) (q : Sequencer) : (s.setSeq q).evalHold = s.evalHold := rfl
@[simp] theorem setSeq_now (s : State) (q : Sequencer) : (s.setSeq q).now = s.now := rfl
@[simp] theorem setSeq_refused (s : State) (q : Sequencer) : (s.setSeq q).refused = s.refused := rfl
@[simp] theorem setSeq_refusals (s : State) (q : Sequencer) : (s.setSeq q).refusals = s.refusals := rfl
@[simp] theorem setSeq_waiting (s : State) (q : Sequencer) : (s.setSeq q).waiting = s.waiting := rfl
@[simp] theorem setSeq_busOut (s : State) (q : Sequencer) : (s.setSeq q).busOut = s.busOut := rfl
@[simp] theorem setSeq_schedule (s : State) (q : Sequencer) : (s.setSeq q).schedule = s.schedule := rfl
@[simp] theorem setSeq_cfg (s : State) (q : Sequencer) : (s.setSeq q).cfg = s.cfg := rfl

/-! ### busReturn -/

@[simp] theorem busReturn_ch (s : State) (v : Word) : (s.busReturn v).ch = s.ch := rfl
@[simp] theorem busReturn_lk (s : State) (v : Word) : (s.busReturn v).lk = s.lk := rfl
@[simp] theorem busReturn_seq (s : State) (v : Word) : (s.busReturn v).seq = s.seq := rfl
@[simp] theorem busReturn_door (s : State) (v : Word) : (s.busReturn v).door = s.door := rfl
@[simp] theorem busReturn_doorTrig (s : State) (v : Word) : (s.busReturn v).doorTrig = s.doorTrig := rfl
@[simp] theorem busReturn_evtBad (s : State) (v : Word) : (s.busReturn v).evtBad = s.evtBad := rfl
@[simp] theorem busReturn_evtLO (s : State) (v : Word) : (s.busReturn v).evtLO = s.evtLO := rfl
@[simp] theorem busReturn_evtRL (s : State) (v : Word) : (s.busReturn v).evtRL = s.evtRL := rfl
@[simp] theorem busReturn_evtRJ (s : State) (v : Word) : (s.busReturn v).evtRJ = s.evtRJ := rfl
@[simp] theorem busReturn_evalHold (s : State) (v : Word) : (s.busReturn v).evalHold = s.evalHold := rfl
@[simp] theorem busReturn_now (s : State) (v : Word) : (s.busReturn v).now = s.now := rfl
@[simp] theorem busReturn_refused (s : State) (v : Word) : (s.busReturn v).refused = s.refused := rfl
@[simp] theorem busReturn_refusals (s : State) (v : Word) : (s.busReturn v).refusals = s.refusals := rfl
@[simp] theorem busReturn_waiting (s : State) (v : Word) : (s.busReturn v).waiting = s.waiting := rfl
@[simp] theorem busReturn_busOut (s : State) (v : Word) : (s.busReturn v).busOut = some v := rfl
@[simp] theorem busReturn_schedule (s : State) (v : Word) : (s.busReturn v).schedule = s.schedule := rfl
@[simp] theorem busReturn_cfg (s : State) (v : Word) : (s.busReturn v).cfg = s.cfg := rfl

/-! ### raiseRefused -/

@[simp] theorem raiseRefused_ch (s : State) (r : RefusalRecord) : (s.raiseRefused r).ch = s.ch := rfl
@[simp] theorem raiseRefused_lk (s : State) (r : RefusalRecord) : (s.raiseRefused r).lk = s.lk := rfl
@[simp] theorem raiseRefused_seq (s : State) (r : RefusalRecord) : (s.raiseRefused r).seq = s.seq := rfl
@[simp] theorem raiseRefused_door (s : State) (r : RefusalRecord) : (s.raiseRefused r).door = s.door := rfl
@[simp] theorem raiseRefused_doorTrig (s : State) (r : RefusalRecord) : (s.raiseRefused r).doorTrig = s.doorTrig := rfl
@[simp] theorem raiseRefused_evtBad (s : State) (r : RefusalRecord) : (s.raiseRefused r).evtBad = s.evtBad := rfl
@[simp] theorem raiseRefused_evtLO (s : State) (r : RefusalRecord) : (s.raiseRefused r).evtLO = s.evtLO := rfl
@[simp] theorem raiseRefused_evtRL (s : State) (r : RefusalRecord) : (s.raiseRefused r).evtRL = s.evtRL := rfl
@[simp] theorem raiseRefused_evtRJ (s : State) (r : RefusalRecord) : (s.raiseRefused r).evtRJ = s.evtRJ := rfl
@[simp] theorem raiseRefused_evalHold (s : State) (r : RefusalRecord) : (s.raiseRefused r).evalHold = s.evalHold := rfl
@[simp] theorem raiseRefused_now (s : State) (r : RefusalRecord) : (s.raiseRefused r).now = s.now := rfl
@[simp] theorem raiseRefused_refused (s : State) (r : RefusalRecord) : (s.raiseRefused r).refused = true := rfl
@[simp] theorem raiseRefused_refusals (s : State) (r : RefusalRecord) : (s.raiseRefused r).refusals = s.refusals ++ [r] := rfl
@[simp] theorem raiseRefused_waiting (s : State) (r : RefusalRecord) : (s.raiseRefused r).waiting = s.waiting := rfl
@[simp] theorem raiseRefused_busOut (s : State) (r : RefusalRecord) : (s.raiseRefused r).busOut = s.busOut := rfl
@[simp] theorem raiseRefused_schedule (s : State) (r : RefusalRecord) : (s.raiseRefused r).schedule = s.schedule := rfl
@[simp] theorem raiseRefused_cfg (s : State) (r : RefusalRecord) : (s.raiseRefused r).cfg = s.cfg := rfl

/-! ### holdBus -/

@[simp] theorem holdBus_ch (s : State) (i : Instr) : (s.holdBus i).ch = s.ch := rfl
@[simp] theorem holdBus_lk (s : State) (i : Instr) : (s.holdBus i).lk = s.lk := rfl
@[simp] theorem holdBus_seq (s : State) (i : Instr) : (s.holdBus i).seq = s.seq := rfl
@[simp] theorem holdBus_door (s : State) (i : Instr) : (s.holdBus i).door = s.door := rfl
@[simp] theorem holdBus_doorTrig (s : State) (i : Instr) : (s.holdBus i).doorTrig = s.doorTrig := rfl
@[simp] theorem holdBus_evtBad (s : State) (i : Instr) : (s.holdBus i).evtBad = s.evtBad := rfl
@[simp] theorem holdBus_evtLO (s : State) (i : Instr) : (s.holdBus i).evtLO = s.evtLO := rfl
@[simp] theorem holdBus_evtRL (s : State) (i : Instr) : (s.holdBus i).evtRL = s.evtRL := rfl
@[simp] theorem holdBus_evtRJ (s : State) (i : Instr) : (s.holdBus i).evtRJ = s.evtRJ := rfl
@[simp] theorem holdBus_evalHold (s : State) (i : Instr) : (s.holdBus i).evalHold = s.evalHold := rfl
@[simp] theorem holdBus_now (s : State) (i : Instr) : (s.holdBus i).now = s.now := rfl
@[simp] theorem holdBus_refused (s : State) (i : Instr) : (s.holdBus i).refused = s.refused := rfl
@[simp] theorem holdBus_refusals (s : State) (i : Instr) : (s.holdBus i).refusals = s.refusals := rfl
@[simp] theorem holdBus_waiting (s : State) (i : Instr) : (s.holdBus i).waiting = { s.waiting with bus := s.waiting.bus ++ [i] } := rfl
@[simp] theorem holdBus_busOut (s : State) (i : Instr) : (s.holdBus i).busOut = s.busOut := rfl
@[simp] theorem holdBus_schedule (s : State) (i : Instr) : (s.holdBus i).schedule = s.schedule := rfl
@[simp] theorem holdBus_cfg (s : State) (i : Instr) : (s.holdBus i).cfg = s.cfg := rfl

/-! ### holdTick -/

@[simp] theorem holdTick_ch (s : State) : (s.holdTick).ch = s.ch := rfl
@[simp] theorem holdTick_lk (s : State) : (s.holdTick).lk = s.lk := rfl
@[simp] theorem holdTick_seq (s : State) : (s.holdTick).seq = s.seq := rfl
@[simp] theorem holdTick_door (s : State) : (s.holdTick).door = s.door := rfl
@[simp] theorem holdTick_doorTrig (s : State) : (s.holdTick).doorTrig = s.doorTrig := rfl
@[simp] theorem holdTick_evtBad (s : State) : (s.holdTick).evtBad = s.evtBad := rfl
@[simp] theorem holdTick_evtLO (s : State) : (s.holdTick).evtLO = s.evtLO := rfl
@[simp] theorem holdTick_evtRL (s : State) : (s.holdTick).evtRL = s.evtRL := rfl
@[simp] theorem holdTick_evtRJ (s : State) : (s.holdTick).evtRJ = s.evtRJ := rfl
@[simp] theorem holdTick_evalHold (s : State) : (s.holdTick).evalHold = s.evalHold := rfl
@[simp] theorem holdTick_now (s : State) : (s.holdTick).now = s.now := rfl
@[simp] theorem holdTick_refused (s : State) : (s.holdTick).refused = s.refused := rfl
@[simp] theorem holdTick_refusals (s : State) : (s.holdTick).refusals = s.refusals := rfl
@[simp] theorem holdTick_waiting (s : State) : (s.holdTick).waiting = { s.waiting with ticks := s.waiting.ticks + 1 } := rfl
@[simp] theorem holdTick_busOut (s : State) : (s.holdTick).busOut = s.busOut := rfl
@[simp] theorem holdTick_schedule (s : State) : (s.holdTick).schedule = s.schedule := rfl
@[simp] theorem holdTick_cfg (s : State) : (s.holdTick).cfg = s.cfg := rfl

/-! ### holdEval -/

@[simp] theorem holdEval_ch (s : State) : (s.holdEval).ch = s.ch := rfl
@[simp] theorem holdEval_lk (s : State) : (s.holdEval).lk = s.lk := rfl
@[simp] theorem holdEval_seq (s : State) : (s.holdEval).seq = s.seq := rfl
@[simp] theorem holdEval_door (s : State) : (s.holdEval).door = s.door := rfl
@[simp] theorem holdEval_doorTrig (s : State) : (s.holdEval).doorTrig = s.doorTrig := rfl
@[simp] theorem holdEval_evtBad (s : State) : (s.holdEval).evtBad = s.evtBad := rfl
@[simp] theorem holdEval_evtLO (s : State) : (s.holdEval).evtLO = s.evtLO := rfl
@[simp] theorem holdEval_evtRL (s : State) : (s.holdEval).evtRL = s.evtRL := rfl
@[simp] theorem holdEval_evtRJ (s : State) : (s.holdEval).evtRJ = s.evtRJ := rfl
@[simp] theorem holdEval_evalHold (s : State) : (s.holdEval).evalHold = s.evalHold := rfl
@[simp] theorem holdEval_now (s : State) : (s.holdEval).now = s.now := rfl
@[simp] theorem holdEval_refused (s : State) : (s.holdEval).refused = s.refused := rfl
@[simp] theorem holdEval_refusals (s : State) : (s.holdEval).refusals = s.refusals := rfl
@[simp] theorem holdEval_waiting (s : State) : (s.holdEval).waiting = { s.waiting with evals := s.waiting.evals + 1 } := rfl
@[simp] theorem holdEval_busOut (s : State) : (s.holdEval).busOut = s.busOut := rfl
@[simp] theorem holdEval_schedule (s : State) : (s.holdEval).schedule = s.schedule := rfl
@[simp] theorem holdEval_cfg (s : State) : (s.holdEval).cfg = s.cfg := rfl

/-! ### holdSeqAdvance -/

@[simp] theorem holdSeqAdvance_ch (s : State) : (s.holdSeqAdvance).ch = s.ch := rfl
@[simp] theorem holdSeqAdvance_lk (s : State) : (s.holdSeqAdvance).lk = s.lk := rfl
@[simp] theorem holdSeqAdvance_seq (s : State) : (s.holdSeqAdvance).seq = s.seq := rfl
@[simp] theorem holdSeqAdvance_door (s : State) : (s.holdSeqAdvance).door = s.door := rfl
@[simp] theorem holdSeqAdvance_doorTrig (s : State) : (s.holdSeqAdvance).doorTrig = s.doorTrig := rfl
@[simp] theorem holdSeqAdvance_evtBad (s : State) : (s.holdSeqAdvance).evtBad = s.evtBad := rfl
@[simp] theorem holdSeqAdvance_evtLO (s : State) : (s.holdSeqAdvance).evtLO = s.evtLO := rfl
@[simp] theorem holdSeqAdvance_evtRL (s : State) : (s.holdSeqAdvance).evtRL = s.evtRL := rfl
@[simp] theorem holdSeqAdvance_evtRJ (s : State) : (s.holdSeqAdvance).evtRJ = s.evtRJ := rfl
@[simp] theorem holdSeqAdvance_evalHold (s : State) : (s.holdSeqAdvance).evalHold = s.evalHold := rfl
@[simp] theorem holdSeqAdvance_now (s : State) : (s.holdSeqAdvance).now = s.now := rfl
@[simp] theorem holdSeqAdvance_refused (s : State) : (s.holdSeqAdvance).refused = s.refused := rfl
@[simp] theorem holdSeqAdvance_refusals (s : State) : (s.holdSeqAdvance).refusals = s.refusals := rfl
@[simp] theorem holdSeqAdvance_waiting (s : State) : (s.holdSeqAdvance).waiting = { s.waiting with seqAdvances := s.waiting.seqAdvances + 1 } := rfl
@[simp] theorem holdSeqAdvance_busOut (s : State) : (s.holdSeqAdvance).busOut = s.busOut := rfl
@[simp] theorem holdSeqAdvance_schedule (s : State) : (s.holdSeqAdvance).schedule = s.schedule := rfl
@[simp] theorem holdSeqAdvance_cfg (s : State) : (s.holdSeqAdvance).cfg = s.cfg := rfl

/-! ### clearFlags -/

@[simp] theorem clearFlags_ch (s : State) (data : Word) : (s.clearFlags data).ch = s.ch := rfl
@[simp] theorem clearFlags_lk (s : State) (data : Word) : (s.clearFlags data).lk = s.lk := rfl
@[simp] theorem clearFlags_seq (s : State) (data : Word) : (s.clearFlags data).seq = s.seq := rfl
@[simp] theorem clearFlags_door (s : State) (data : Word) : (s.clearFlags data).door = s.door := rfl
@[simp] theorem clearFlags_doorTrig (s : State) (data : Word) : (s.clearFlags data).doorTrig = s.doorTrig := rfl
@[simp] theorem clearFlags_evtBad (s : State) (data : Word) : (s.clearFlags data).evtBad = (s.evtBad && !w1cBad data) := rfl
@[simp] theorem clearFlags_evalHold (s : State) (data : Word) : (s.clearFlags data).evalHold = s.evalHold := rfl
@[simp] theorem clearFlags_now (s : State) (data : Word) : (s.clearFlags data).now = s.now := rfl
@[simp] theorem clearFlags_refused (s : State) (data : Word) : (s.clearFlags data).refused = s.refused := rfl
@[simp] theorem clearFlags_refusals (s : State) (data : Word) : (s.clearFlags data).refusals = s.refusals := rfl
@[simp] theorem clearFlags_waiting (s : State) (data : Word) : (s.clearFlags data).waiting = s.waiting := rfl
@[simp] theorem clearFlags_busOut (s : State) (data : Word) : (s.clearFlags data).busOut = s.busOut := rfl
@[simp] theorem clearFlags_schedule (s : State) (data : Word) : (s.clearFlags data).schedule = s.schedule := rfl
@[simp] theorem clearFlags_cfg (s : State) (data : Word) : (s.clearFlags data).cfg = s.cfg := rfl

@[simp] theorem setCh_get_same (s : State) (c : Dir) (x : Capture) : (s.setCh c x).ch.get c = x := by simp
@[simp] theorem setLk_get_same (s : State) (d : Dir) (x : Lock) : (s.setLk d x).lk.get d = x := by simp

end Sys2Proof.Machine
end

