-- ==== Sys2Proof/Laws/Ops.lean ====
section
/-! SUPPORT. One lemma per shared operation, saying once everything it can do; and what a step can do. -/

namespace Sys2Proof.Machine

/-! ### Capture -/

/-- A bit append writes channel `c` and nothing else. -/
theorem append_eq (s : State) (c : Dir) (b : Bool) :
    s.append c b = { s with
      ch := s.ch.set c
        { buf := BitVec.concat ((s.ch.get c).buf.extractLsb' 0 63) b
          cnt := if (s.ch.get c).cnt = 255#8 then 255#8 else (s.ch.get c).cnt + 1#8
          dlv := true
          dl := s.now + BitVec.ofNat 64 s.cfg.tBit } } := by
  simp [State.append, State.setCh, State.after]

/-- The buffer after an append, as a number: twice the old one plus the bit, without the old bit 63. -/
theorem append_buf_toNat (s : State) (c : Dir) (b : Bool) :
    ((s.append c b).ch.get c).buf.toNat = ((s.ch.get c).buf.toNat % 2 ^ 63) * 2 + b.toNat := by
  simp only [append_eq, perDir_get_set_same]
  rw [BitVec.toNat_concat, BitVec.extractLsb'_toNat, Nat.shiftRight_zero]

/-- A channel reset writes channel `c` and nothing else. -/
theorem emptyChannel_eq (s : State) (c : Dir) : s.emptyChannel c = { s with ch := s.ch.set c Capture.empty } := rfl

/-! ### Sequencer -/

/-- Starting a sequence writes the sequencer and nothing else. -/
theorem startSeq_eq (s : State) (k : Kind) (d : Dir) :
    s.startSeq k d = { s with seq := ⟨.drive, d, k, s.now + BitVec.ofNat 64 (driveTime s.cfg k)⟩ } := rfl

/-- A commit writes the lock of its direction and the one flag of its kind. -/
theorem commit_cases (s : State) (k : Kind) (d : Dir) :
    (k = .unlockPermit ∧ s.commit k d = { s with
      lk := s.lk.set d
        { s.lk.get d with isOpen := true, lo := false, cdv := true, cd := s.after s.cfg.doorTimeout } }) ∨
    (k = .unlockLockedOpen ∧ s.commit k d = { s with
      lk := s.lk.set d
        { s.lk.get d with isOpen := true, lo := true, cdv := true, cd := s.after s.cfg.lockedOpenTimeout }
      evtLO := s.evtLO.set d true }) ∨
    (k = .relock ∧ s.commit k d = { s with
      lk := s.lk.set d
        { isOpen := false, lo := false, cdv := false, cd := 0#64
          luv := if (s.lk.get d).lo then (s.lk.get d).luv else true
          lu := if (s.lk.get d).lo then (s.lk.get d).lu else s.now }
      evtRL := s.evtRL.set d true }) := by
  cases k
  · exact .inl ⟨rfl, rfl⟩
  · exact .inr (.inl ⟨rfl, rfl⟩)
  · exact .inr (.inr ⟨rfl, rfl⟩)

/-- The iteration end writes `evalHold` when a direction is `LockedOpen`, and nothing else. -/
theorem iterationEnd_cases (s : State) :
    ((s.lk.entry.lo = true ∨ s.lk.exit.lo = true) ∧ s.iterationEnd = { s with evalHold := s.after s.cfg.pollDelay }) ∨
    (s.lk.entry.lo = false ∧ s.lk.exit.lo = false ∧ s.iterationEnd = s) := by
  unfold State.iterationEnd
  cases h0 : s.lk.entry.lo <;> cases h1 : s.lk.exit.lo <;> simp

/-- An enabled SEQ_ADVANCE begins the hold phase, or commits, goes IDLE and ends the iteration. -/
theorem advanceSeq_cases (s : State) :
    (s.seq.phase = .drive ∧ 0 < holdTime s.cfg s.seq.kind ∧
      s.advanceSeq = s.setSeq { s.seq with phase := .hold, endAt := s.after (holdTime s.cfg s.seq.kind) }) ∨
    (¬(s.seq.phase = .drive ∧ 0 < holdTime s.cfg s.seq.kind) ∧
      s.advanceSeq = ((s.commit s.seq.kind s.seq.dir).setSeq
        { s.seq with phase := .idle, endAt := 0#64 }).iterationEnd) := by
  have hseq : (s.commit s.seq.kind s.seq.dir).seq = s.seq := by cases h : s.seq.kind <;> rfl
  unfold State.advanceSeq
  by_cases h : s.seq.phase = .drive ∧ 0 < holdTime s.cfg s.seq.kind
  · exact .inl ⟨h.1, h.2, by simp [h.1, h.2]⟩
  · refine .inr ⟨h, ?_⟩
    rw [if_neg (by simpa using h)]
    simp only [hseq]

/-! ### Evaluation -/

/-- Swing of one lock leaves every field but `cd`, and `cd` only grows. -/
theorem swingLock_cases (t : Time) (l : Lock) :
    (l.isOpen = true ∧ l.lo = false ∧ l.cd.toNat < t.toNat ∧ swingLock t l = { l with cd := t }) ∨
    (¬(l.isOpen = true ∧ l.lo = false ∧ l.cd.toNat < t.toNat) ∧ swingLock t l = l) := by
  unfold swingLock
  cases h0 : l.isOpen <;> cases h1 : l.lo <;> simp [BitVec.ult]
  by_cases h : l.cd.toNat < t.toNat
  · simp [h]
  · refine .inr ⟨Nat.le_of_not_lt h, ?_⟩
    cases l
    simp_all

@[simp] theorem swingLock_isOpen (t : Time) (l : Lock) : (swingLock t l).isOpen = l.isOpen := by
  rcases swingLock_cases t l with ⟨-, -, -, h⟩ | ⟨-, h⟩ <;> rw [h]

@[simp] theorem swingLock_lo (t : Time) (l : Lock) : (swingLock t l).lo = l.lo := by
  rcases swingLock_cases t l with ⟨-, -, -, h⟩ | ⟨-, h⟩ <;> rw [h]

@[simp] theorem swingLock_cdv (t : Time) (l : Lock) : (swingLock t l).cdv = l.cdv := by
  rcases swingLock_cases t l with ⟨-, -, -, h⟩ | ⟨-, h⟩ <;> rw [h]

@[simp] theorem swingLock_luv (t : Time) (l : Lock) : (swingLock t l).luv = l.luv := by
  rcases swingLock_cases t l with ⟨-, -, -, h⟩ | ⟨-, h⟩ <;> rw [h]

@[simp] theorem swingLock_lu (t : Time) (l : Lock) : (swingLock t l).lu = l.lu := by
  rcases swingLock_cases t l with ⟨-, -, -, h⟩ | ⟨-, h⟩ <;> rw [h]

/-- Swing does nothing, or consumes the trigger and swings both locks. -/
theorem swing_cases (s : State) :
    (s.doorTrig = false ∧ s.swing = s) ∨
    (s.doorTrig = true ∧ s.swing = { s with
      lk := ⟨swingLock (s.after s.cfg.doorSwingTimeout) s.lk.entry, swingLock (s.after s.cfg.doorSwingTimeout) s.lk.exit⟩
      doorTrig := false }) := by
  unfold State.swing
  cases s.doorTrig <;> simp

/-- What an evaluation starts is a candidate, the first of R161's list. -/
theorem evalChoice_cases (s : State) (smp : Bool) :
    (lockedOpenCand s smp .entry = true ∧ evalChoice s smp = some (.unlockLockedOpen, .entry)) ∨
    (lockedOpenCand s smp .entry = false ∧ lockedOpenCand s smp .exit = true ∧
      evalChoice s smp = some (.unlockLockedOpen, .exit)) ∨
    (lockedOpenCand s smp .entry = false ∧ lockedOpenCand s smp .exit = false ∧ relockCand s smp .entry = true ∧
      evalChoice s smp = some (.relock, .entry)) ∨
    (lockedOpenCand s smp .entry = false ∧ lockedOpenCand s smp .exit = false ∧ relockCand s smp .entry = false ∧
      relockCand s smp .exit = true ∧ evalChoice s smp = some (.relock, .exit)) ∨
    (lockedOpenCand s smp .entry = false ∧ lockedOpenCand s smp .exit = false ∧ relockCand s smp .entry = false ∧
      relockCand s smp .exit = false ∧ evalChoice s smp = none) := by
  unfold evalChoice
  cases lockedOpenCand s smp .entry <;> cases lockedOpenCand s smp .exit <;> cases relockCand s smp .entry <;>
    cases relockCand s smp .exit <;> simp

/-- The action part starts a chosen sequence or ends the iteration. -/
theorem evalAct_cases (s : State) (smp : Bool) :
    (∃ k d, evalChoice s smp = some (k, d) ∧ s.evalAct smp = s.startSeq k d) ∨
    (evalChoice s smp = none ∧ s.evalAct smp = s.iterationEnd) := by
  unfold State.evalAct
  cases h : evalChoice s smp with
  | none => exact .inr ⟨rfl, rfl⟩
  | some p => exact .inl ⟨p.1, p.2, rfl, rfl⟩

/-! ### The meanings that can be held -/

theorem execWrLockUnlock_cases (data : Word) (s : State) :
    (unlockHeld s = true ∧ execWrLockUnlock data s = .next (s.holdBus (.wrLockUnlock data))) ∨
    (unlockHeld s = false ∧ interlockOk s (lockCmdDir data) = true ∧
      execWrLockUnlock data s = .next (s.startSeq .unlockPermit (lockCmdDir data))) ∨
    (unlockHeld s = false ∧ interlockOk s (lockCmdDir data) = false ∧
      execWrLockUnlock data s = .next { s with evtRJ := s.evtRJ.set (lockCmdDir data) true }) := by
  unfold execWrLockUnlock State.requestUnlock
  cases unlockHeld s <;> cases interlockOk s (lockCmdDir data) <;> simp

theorem execSeqAdvance_cases (s : State) :
    (seqAdvanceHeld s = true ∧ execSeqAdvance s = .next s.holdSeqAdvance) ∨
    (seqAdvanceHeld s = false ∧ execSeqAdvance s = .next s.advanceSeq) := by
  unfold execSeqAdvance
  cases seqAdvanceHeld s <;> simp

theorem execEval_cases (s : State) :
    (evalHeld s = true ∧ execEval s = .next s.holdEval) ∨ (evalHeld s = false ∧ execEval s = .next s.evaluate) := by
  unfold execEval
  cases evalHeld s <;> simp

theorem execTick_cases (s : State) :
    (timeOver s = true ∧ execTick s = .next (s.raiseRefused (.timeOverflow s.now))) ∨
    (timeOver s = false ∧ internalPending s = true ∧ execTick s = .next s.holdTick) ∨
    (timeOver s = false ∧ internalPending s = false ∧ execTick s = .next { s with now := s.now + 1#64 }) := by
  unfold execTick
  cases timeOver s <;> cases internalPending s <;> simp

/-! ### Views in words of numbers -/

theorem seqAdvanceHeld_eq_false (s : State) :
    seqAdvanceHeld s = false ↔ s.seq.phase ≠ .idle ∧ s.seq.endAt.toNat ≤ s.now.toNat := by
  unfold seqAdvanceHeld
  cases s.seq.phase <;> simp [BitVec.ult]

theorem evalHeld_eq_false (s : State) :
    evalHeld s = false ↔ s.seq.phase = .idle ∧ s.evalHold.toNat ≤ s.now.toNat := by
  unfold evalHeld seqBusy
  cases s.seq.phase <;> simp [BitVec.ult]

theorem unlockHeld_eq_false (s : State) : unlockHeld s = false ↔ s.seq.phase = .idle := by
  unfold unlockHeld seqBusy
  cases s.seq.phase <;> simp

theorem timeOver_eq_false (s : State) : timeOver s = false ↔ s.now.toNat < 2 ^ 63 := by
  unfold timeOver
  simp [BitVec.ule]

/-! ### What a step can do -/

/-- A step takes no turn, presents a decoded stimulus, refuses a word, or tries a waiting stimulus again. -/
theorem step_cases (s : State) :
    (s.schedule = [] ∧ step s = .next s) ∨
    (∃ x rest i, s.schedule = .arrive x :: rest ∧ decode x = .ok i ∧ step s = present i { s with schedule := rest }) ∨
    (∃ x rest e, s.schedule = .arrive x :: rest ∧ decode x = .error e ∧
      step s = .next (({ s with schedule := rest } : State).raiseRefused (.illegalStimulus x))) ∨
    (∃ k rest, s.schedule = .retry k :: rest ∧ step s = retry k { s with schedule := rest }) := by
  unfold step
  cases hs : s.schedule with
  | nil => exact .inl ⟨rfl, rfl⟩
  | cons turn rest =>
    cases turn with
    | retry k => exact .inr (.inr (.inr ⟨k, rest, rfl, rfl⟩))
    | arrive x =>
      cases hd : decode x with
      | ok i => exact .inr (.inl ⟨x, rest, i, rfl, hd, by simp [takeTurn, arrive, hd]⟩)
      | error e => exact .inr (.inr (.inl ⟨x, rest, e, rfl, hd, by simp [takeTurn, arrive, hd]⟩))

/-- Trying a waiting stimulus again does nothing, or runs a stimulus that is not held on the state without it. -/
theorem retry_cases (k : HeldKind) (s : State) :
    retry k s = .next s ∨
    (k = .bus ∧ ∃ i rest, s.waiting.bus = i :: rest ∧ heldNow i s = false ∧
      retry k s = exec i { s with waiting := { s.waiting with bus := rest } }) ∨
    (k = .tick ∧ ∃ n, s.waiting.ticks = n + 1 ∧ tickHeld s = false ∧
      retry k s = exec .tick { s with waiting := { s.waiting with ticks := n } }) ∨
    (k = .eval ∧ ∃ n, s.waiting.evals = n + 1 ∧ evalHeld s = false ∧
      retry k s = exec .eval { s with waiting := { s.waiting with evals := n } }) ∨
    (k = .seqAdvance ∧ ∃ n, s.waiting.seqAdvances = n + 1 ∧ seqAdvanceHeld s = false ∧
      retry k s = exec .seqAdvance { s with waiting := { s.waiting with seqAdvances := n } }) := by
  cases k with
  | bus =>
    cases hb : s.waiting.bus with
    | nil => exact .inl (by simp [retry, hb])
    | cons i rest =>
      cases hh : heldNow i s with
      | true => exact .inl (by simp [retry, hb, hh])
      | false => exact .inr (.inl ⟨rfl, i, rest, rfl, hh, by simp [retry, hb, hh]⟩)
  | tick =>
    cases hb : s.waiting.ticks with
    | zero => exact .inl (by simp [retry, hb])
    | succ n =>
      cases hh : tickHeld s with
      | true => exact .inl (by simp [retry, hb, heldNow, hh])
      | false => exact .inr (.inr (.inl ⟨rfl, n, rfl, rfl, by simp [retry, hb, heldNow, hh]⟩))
  | eval =>
    cases hb : s.waiting.evals with
    | zero => exact .inl (by simp [retry, hb])
    | succ n =>
      cases hh : evalHeld s with
      | true => exact .inl (by simp [retry, hb, heldNow, hh])
      | false => exact .inr (.inr (.inr (.inl ⟨rfl, n, rfl, rfl, by simp [retry, hb, heldNow, hh]⟩)))
  | seqAdvance =>
    cases hb : s.waiting.seqAdvances with
    | zero => exact .inl (by simp [retry, hb])
    | succ n =>
      cases hh : seqAdvanceHeld s with
      | true => exact .inl (by simp [retry, hb, heldNow, hh])
      | false => exact .inr (.inr (.inr (.inr ⟨rfl, n, rfl, rfl, by simp [retry, hb, heldNow, hh]⟩)))

end Sys2Proof.Machine
end

