-- ==== Sys2Proof/Laws/Frames.lean ====
section
/-! SUPPORT. Field lemmas of the larger operations: which fields an append, a channel reset, a start, a commit, an iteration end,
a swing, a sequencer step, an evaluation and a RESET leave as they were. -/

namespace Sys2Proof.Machine

/-! ### append -/

@[simp] theorem append_lk (s : State) (c : Dir) (b : Bool) : (s.append c b).lk = s.lk := rfl
@[simp] theorem append_seq (s : State) (c : Dir) (b : Bool) : (s.append c b).seq = s.seq := rfl
@[simp] theorem append_door (s : State) (c : Dir) (b : Bool) : (s.append c b).door = s.door := rfl
@[simp] theorem append_doorTrig (s : State) (c : Dir) (b : Bool) : (s.append c b).doorTrig = s.doorTrig := rfl
@[simp] theorem append_evtBad (s : State) (c : Dir) (b : Bool) : (s.append c b).evtBad = s.evtBad := rfl
@[simp] theorem append_evtLO (s : State) (c : Dir) (b : Bool) : (s.append c b).evtLO = s.evtLO := rfl
@[simp] theorem append_evtRL (s : State) (c : Dir) (b : Bool) : (s.append c b).evtRL = s.evtRL := rfl
@[simp] theorem append_evtRJ (s : State) (c : Dir) (b : Bool) : (s.append c b).evtRJ = s.evtRJ := rfl
@[simp] theorem append_evalHold (s : State) (c : Dir) (b : Bool) : (s.append c b).evalHold = s.evalHold := rfl
@[simp] theorem append_now (s : State) (c : Dir) (b : Bool) : (s.append c b).now = s.now := rfl
@[simp] theorem append_refused (s : State) (c : Dir) (b : Bool) : (s.append c b).refused = s.refused := rfl
@[simp] theorem append_refusals (s : State) (c : Dir) (b : Bool) : (s.append c b).refusals = s.refusals := rfl
@[simp] theorem append_waiting (s : State) (c : Dir) (b : Bool) : (s.append c b).waiting = s.waiting := rfl
@[simp] theorem append_busOut (s : State) (c : Dir) (b : Bool) : (s.append c b).busOut = s.busOut := rfl
@[simp] theorem append_schedule (s : State) (c : Dir) (b : Bool) : (s.append c b).schedule = s.schedule := rfl
@[simp] theorem append_cfg (s : State) (c : Dir) (b : Bool) : (s.append c b).cfg = s.cfg := rfl

/-! ### emptyChannel -/

@[simp] theorem emptyChannel_lk (s : State) (c : Dir) : (s.emptyChannel c).lk = s.lk := rfl
@[simp] theorem emptyChannel_seq (s : State) (c : Dir) : (s.emptyChannel c).seq = s.seq := rfl
@[simp] theorem emptyChannel_door (s : State) (c : Dir) : (s.emptyChannel c).door = s.door := rfl
@[simp] theorem emptyChannel_doorTrig (s : State) (c : Dir) : (s.emptyChannel c).doorTrig = s.doorTrig := rfl
@[simp] theorem emptyChannel_evtBad (s : State) (c : Dir) : (s.emptyChannel c).evtBad = s.evtBad := rfl
@[simp] theorem emptyChannel_evtLO (s : State) (c : Dir) : (s.emptyChannel c).evtLO = s.evtLO := rfl
@[simp] theorem emptyChannel_evtRL (s : State) (c : Dir) : (s.emptyChannel c).evtRL = s.evtRL := rfl
@[simp] theorem emptyChannel_evtRJ (s : State) (c : Dir) : (s.emptyChannel c).evtRJ = s.evtRJ := rfl
@[simp] theorem emptyChannel_evalHold (s : State) (c : Dir) : (s.emptyChannel c).evalHold = s.evalHold := rfl
@[simp] theorem emptyChannel_now (s : State) (c : Dir) : (s.emptyChannel c).now = s.now := rfl
@[simp] theorem emptyChannel_refused (s : State) (c : Dir) : (s.emptyChannel c).refused = s.refused := rfl
@[simp] theorem emptyChannel_refusals (s : State) (c : Dir) : (s.emptyChannel c).refusals = s.refusals := rfl
@[simp] theorem emptyChannel_waiting (s : State) (c : Dir) : (s.emptyChannel c).waiting = s.waiting := rfl
@[simp] theorem emptyChannel_busOut (s : State) (c : Dir) : (s.emptyChannel c).busOut = s.busOut := rfl
@[simp] theorem emptyChannel_schedule (s : State) (c : Dir) : (s.emptyChannel c).schedule = s.schedule := rfl
@[simp] theorem emptyChannel_cfg (s : State) (c : Dir) : (s.emptyChannel c).cfg = s.cfg := rfl
@[simp] theorem emptyChannel_ch (s : State) (c : Dir) : (s.emptyChannel c).ch = s.ch.set c Capture.empty := rfl

/-! ### startSeq -/

@[simp] theorem startSeq_ch (s : State) (k : Kind) (d : Dir) : (s.startSeq k d).ch = s.ch := rfl
@[simp] theorem startSeq_lk (s : State) (k : Kind) (d : Dir) : (s.startSeq k d).lk = s.lk := rfl
@[simp] theorem startSeq_door (s : State) (k : Kind) (d : Dir) : (s.startSeq k d).door = s.door := rfl
@[simp] theorem startSeq_doorTrig (s : State) (k : Kind) (d : Dir) : (s.startSeq k d).doorTrig = s.doorTrig := rfl
@[simp] theorem startSeq_evtBad (s : State) (k : Kind) (d : Dir) : (s.startSeq k d).evtBad = s.evtBad := rfl
@[simp] theorem startSeq_evtLO (s : State) (k : Kind) (d : Dir) : (s.startSeq k d).evtLO = s.evtLO := rfl
@[simp] theorem startSeq_evtRL (s : State) (k : Kind) (d : Dir) : (s.startSeq k d).evtRL = s.evtRL := rfl
@[simp] theorem startSeq_evtRJ (s : State) (k : Kind) (d : Dir) : (s.startSeq k d).evtRJ = s.evtRJ := rfl
@[simp] theorem startSeq_evalHold (s : State) (k : Kind) (d : Dir) : (s.startSeq k d).evalHold = s.evalHold := rfl
@[simp] theorem startSeq_now (s : State) (k : Kind) (d : Dir) : (s.startSeq k d).now = s.now := rfl
@[simp] theorem startSeq_refused (s : State) (k : Kind) (d : Dir) : (s.startSeq k d).refused = s.refused := rfl
@[simp] theorem startSeq_refusals (s : State) (k : Kind) (d : Dir) : (s.startSeq k d).refusals = s.refusals := rfl
@[simp] theorem startSeq_waiting (s : State) (k : Kind) (d : Dir) : (s.startSeq k d).waiting = s.waiting := rfl
@[simp] theorem startSeq_busOut (s : State) (k : Kind) (d : Dir) : (s.startSeq k d).busOut = s.busOut := rfl
@[simp] theorem startSeq_schedule (s : State) (k : Kind) (d : Dir) : (s.startSeq k d).schedule = s.schedule := rfl
@[simp] theorem startSeq_cfg (s : State) (k : Kind) (d : Dir) : (s.startSeq k d).cfg = s.cfg := rfl
@[simp] theorem startSeq_seq (s : State) (k : Kind) (d : Dir) :
    (s.startSeq k d).seq = { phase := .drive, dir := d, kind := k, endAt := s.now + BitVec.ofNat 64 (driveTime s.cfg k) } := rfl

/-! ### blockReset -/

@[simp] theorem blockReset_door (s : State)  : (s.blockReset).door = s.door := rfl
@[simp] theorem blockReset_refused (s : State)  : (s.blockReset).refused = s.refused := rfl
@[simp] theorem blockReset_refusals (s : State)  : (s.blockReset).refusals = s.refusals := rfl
@[simp] theorem blockReset_waiting (s : State)  : (s.blockReset).waiting = s.waiting := rfl
@[simp] theorem blockReset_busOut (s : State)  : (s.blockReset).busOut = s.busOut := rfl
@[simp] theorem blockReset_schedule (s : State)  : (s.blockReset).schedule = s.schedule := rfl
@[simp] theorem blockReset_cfg (s : State)  : (s.blockReset).cfg = s.cfg := rfl

/-! ### commit -/

@[simp] theorem commit_ch (s : State) (k : Kind) (d : Dir) : (s.commit k d).ch = s.ch := by cases k <;> rfl
@[simp] theorem commit_seq (s : State) (k : Kind) (d : Dir) : (s.commit k d).seq = s.seq := by cases k <;> rfl
@[simp] theorem commit_door (s : State) (k : Kind) (d : Dir) : (s.commit k d).door = s.door := by cases k <;> rfl
@[simp] theorem commit_doorTrig (s : State) (k : Kind) (d : Dir) : (s.commit k d).doorTrig = s.doorTrig := by cases k <;> rfl
@[simp] theorem commit_evtBad (s : State) (k : Kind) (d : Dir) : (s.commit k d).evtBad = s.evtBad := by cases k <;> rfl
@[simp] theorem commit_evtRJ (s : State) (k : Kind) (d : Dir) : (s.commit k d).evtRJ = s.evtRJ := by cases k <;> rfl
@[simp] theorem commit_evalHold (s : State) (k : Kind) (d : Dir) : (s.commit k d).evalHold = s.evalHold := by cases k <;> rfl
@[simp] theorem commit_now (s : State) (k : Kind) (d : Dir) : (s.commit k d).now = s.now := by cases k <;> rfl
@[simp] theorem commit_refused (s : State) (k : Kind) (d : Dir) : (s.commit k d).refused = s.refused := by cases k <;> rfl
@[simp] theorem commit_refusals (s : State) (k : Kind) (d : Dir) : (s.commit k d).refusals = s.refusals := by cases k <;> rfl
@[simp] theorem commit_waiting (s : State) (k : Kind) (d : Dir) : (s.commit k d).waiting = s.waiting := by cases k <;> rfl
@[simp] theorem commit_busOut (s : State) (k : Kind) (d : Dir) : (s.commit k d).busOut = s.busOut := by cases k <;> rfl
@[simp] theorem commit_schedule (s : State) (k : Kind) (d : Dir) : (s.commit k d).schedule = s.schedule := by cases k <;> rfl
@[simp] theorem commit_cfg (s : State) (k : Kind) (d : Dir) : (s.commit k d).cfg = s.cfg := by cases k <;> rfl

/-- A commit leaves the other direction. -/
@[simp] theorem commit_lk_opp (s : State) (k : Kind) (d : Dir) : (s.commit k d).lk.get (opp d) = s.lk.get (opp d) := by
  rcases commit_cases s k d with ⟨-, h⟩ | ⟨-, h⟩ | ⟨-, h⟩ <;> rw [h] <;> simp

/-! ### iterationEnd -/

@[simp] theorem iterationEnd_ch (s : State) : (s.iterationEnd).ch = s.ch := by
  rcases iterationEnd_cases s with ⟨-, h⟩ | ⟨-, -, h⟩ <;> rw [h]
@[simp] theorem iterationEnd_lk (s : State) : (s.iterationEnd).lk = s.lk := by
  rcases iterationEnd_cases s with ⟨-, h⟩ | ⟨-, -, h⟩ <;> rw [h]
@[simp] theorem iterationEnd_seq (s : State) : (s.iterationEnd).seq = s.seq := by
  rcases iterationEnd_cases s with ⟨-, h⟩ | ⟨-, -, h⟩ <;> rw [h]
@[simp] theorem iterationEnd_door (s : State) : (s.iterationEnd).door = s.door := by
  rcases iterationEnd_cases s with ⟨-, h⟩ | ⟨-, -, h⟩ <;> rw [h]
@[simp] theorem iterationEnd_doorTrig (s : State) : (s.iterationEnd).doorTrig = s.doorTrig := by
  rcases iterationEnd_cases s with ⟨-, h⟩ | ⟨-, -, h⟩ <;> rw [h]
@[simp] theorem iterationEnd_evtBad (s : State) : (s.iterationEnd).evtBad = s.evtBad := by
  rcases iterationEnd_cases s with ⟨-, h⟩ | ⟨-, -, h⟩ <;> rw [h]
@[simp] theorem iterationEnd_evtLO (s : State) : (s.iterationEnd).evtLO = s.evtLO := by
  rcases iterationEnd_cases s with ⟨-, h⟩ | ⟨-, -, h⟩ <;> rw [h]
@[simp] theorem iterationEnd_evtRL (s : State) : (s.iterationEnd).evtRL = s.evtRL := by
  rcases iterationEnd_cases s with ⟨-, h⟩ | ⟨-, -, h⟩ <;> rw [h]
@[simp] theorem iterationEnd_evtRJ (s : State) : (s.iterationEnd).evtRJ = s.evtRJ := by
  rcases iterationEnd_cases s with ⟨-, h⟩ | ⟨-, -, h⟩ <;> rw [h]
@[simp] theorem iterationEnd_now (s : State) : (s.iterationEnd).now = s.now := by
  rcases iterationEnd_cases s with ⟨-, h⟩ | ⟨-, -, h⟩ <;> rw [h]
@[simp] theorem iterationEnd_refused (s : State) : (s.iterationEnd).refused = s.refused := by
  rcases iterationEnd_cases s with ⟨-, h⟩ | ⟨-, -, h⟩ <;> rw [h]
@[simp] theorem iterationEnd_refusals (s : State) : (s.iterationEnd).refusals = s.refusals := by
  rcases iterationEnd_cases s with ⟨-, h⟩ | ⟨-, -, h⟩ <;> rw [h]
@[simp] theorem iterationEnd_waiting (s : State) : (s.iterationEnd).waiting = s.waiting := by
  rcases iterationEnd_cases s with ⟨-, h⟩ | ⟨-, -, h⟩ <;> rw [h]
@[simp] theorem iterationEnd_busOut (s : State) : (s.iterationEnd).busOut = s.busOut := by
  rcases iterationEnd_cases s with ⟨-, h⟩ | ⟨-, -, h⟩ <;> rw [h]
@[simp] theorem iterationEnd_schedule (s : State) : (s.iterationEnd).schedule = s.schedule := by
  rcases iterationEnd_cases s with ⟨-, h⟩ | ⟨-, -, h⟩ <;> rw [h]
@[simp] theorem iterationEnd_cfg (s : State) : (s.iterationEnd).cfg = s.cfg := by
  rcases iterationEnd_cases s with ⟨-, h⟩ | ⟨-, -, h⟩ <;> rw [h]

/-! ### swing -/

@[simp] theorem swing_ch (s : State) : (s.swing).ch = s.ch := by
  rcases swing_cases s with ⟨-, h⟩ | ⟨-, h⟩ <;> rw [h]
@[simp] theorem swing_seq (s : State) : (s.swing).seq = s.seq := by
  rcases swing_cases s with ⟨-, h⟩ | ⟨-, h⟩ <;> rw [h]
@[simp] theorem swing_door (s : State) : (s.swing).door = s.door := by
  rcases swing_cases s with ⟨-, h⟩ | ⟨-, h⟩ <;> rw [h]
@[simp] theorem swing_evtBad (s : State) : (s.swing).evtBad = s.evtBad := by
  rcases swing_cases s with ⟨-, h⟩ | ⟨-, h⟩ <;> rw [h]
@[simp] theorem swing_evtLO (s : State) : (s.swing).evtLO = s.evtLO := by
  rcases swing_cases s with ⟨-, h⟩ | ⟨-, h⟩ <;> rw [h]
@[simp] theorem swing_evtRL (s : State) : (s.swing).evtRL = s.evtRL := by
  rcases swing_cases s with ⟨-, h⟩ | ⟨-, h⟩ <;> rw [h]
@[simp] theorem swing_evtRJ (s : State) : (s.swing).evtRJ = s.evtRJ := by
  rcases swing_cases s with ⟨-, h⟩ | ⟨-, h⟩ <;> rw [h]
@[simp] theorem swing_evalHold (s : State) : (s.swing).evalHold = s.evalHold := by
  rcases swing_cases s with ⟨-, h⟩ | ⟨-, h⟩ <;> rw [h]
@[simp] theorem swing_now (s : State) : (s.swing).now = s.now := by
  rcases swing_cases s with ⟨-, h⟩ | ⟨-, h⟩ <;> rw [h]
@[simp] theorem swing_refused (s : State) : (s.swing).refused = s.refused := by
  rcases swing_cases s with ⟨-, h⟩ | ⟨-, h⟩ <;> rw [h]
@[simp] theorem swing_refusals (s : State) : (s.swing).refusals = s.refusals := by
  rcases swing_cases s with ⟨-, h⟩ | ⟨-, h⟩ <;> rw [h]
@[simp] theorem swing_waiting (s : State) : (s.swing).waiting = s.waiting := by
  rcases swing_cases s with ⟨-, h⟩ | ⟨-, h⟩ <;> rw [h]
@[simp] theorem swing_busOut (s : State) : (s.swing).busOut = s.busOut := by
  rcases swing_cases s with ⟨-, h⟩ | ⟨-, h⟩ <;> rw [h]
@[simp] theorem swing_schedule (s : State) : (s.swing).schedule = s.schedule := by
  rcases swing_cases s with ⟨-, h⟩ | ⟨-, h⟩ <;> rw [h]
@[simp] theorem swing_cfg (s : State) : (s.swing).cfg = s.cfg := by
  rcases swing_cases s with ⟨-, h⟩ | ⟨-, h⟩ <;> rw [h]

/-! ### advanceSeq -/

@[simp] theorem advanceSeq_ch (s : State) : (s.advanceSeq).ch = s.ch := by
  rcases advanceSeq_cases s with ⟨-, -, h⟩ | ⟨-, h⟩ <;> rw [h] <;> simp
@[simp] theorem advanceSeq_door (s : State) : (s.advanceSeq).door = s.door := by
  rcases advanceSeq_cases s with ⟨-, -, h⟩ | ⟨-, h⟩ <;> rw [h] <;> simp
@[simp] theorem advanceSeq_doorTrig (s : State) : (s.advanceSeq).doorTrig = s.doorTrig := by
  rcases advanceSeq_cases s with ⟨-, -, h⟩ | ⟨-, h⟩ <;> rw [h] <;> simp
@[simp] theorem advanceSeq_evtBad (s : State) : (s.advanceSeq).evtBad = s.evtBad := by
  rcases advanceSeq_cases s with ⟨-, -, h⟩ | ⟨-, h⟩ <;> rw [h] <;> simp
@[simp] theorem advanceSeq_evtRJ (s : State) : (s.advanceSeq).evtRJ = s.evtRJ := by
  rcases advanceSeq_cases s with ⟨-, -, h⟩ | ⟨-, h⟩ <;> rw [h] <;> simp
@[simp] theorem advanceSeq_now (s : State) : (s.advanceSeq).now = s.now := by
  rcases advanceSeq_cases s with ⟨-, -, h⟩ | ⟨-, h⟩ <;> rw [h] <;> simp
@[simp] theorem advanceSeq_refused (s : State) : (s.advanceSeq).refused = s.refused := by
  rcases advanceSeq_cases s with ⟨-, -, h⟩ | ⟨-, h⟩ <;> rw [h] <;> simp
@[simp] theorem advanceSeq_refusals (s : State) : (s.advanceSeq).refusals = s.refusals := by
  rcases advanceSeq_cases s with ⟨-, -, h⟩ | ⟨-, h⟩ <;> rw [h] <;> simp
@[simp] theorem advanceSeq_waiting (s : State) : (s.advanceSeq).waiting = s.waiting := by
  rcases advanceSeq_cases s with ⟨-, -, h⟩ | ⟨-, h⟩ <;> rw [h] <;> simp
@[simp] theorem advanceSeq_busOut (s : State) : (s.advanceSeq).busOut = s.busOut := by
  rcases advanceSeq_cases s with ⟨-, -, h⟩ | ⟨-, h⟩ <;> rw [h] <;> simp
@[simp] theorem advanceSeq_schedule (s : State) : (s.advanceSeq).schedule = s.schedule := by
  rcases advanceSeq_cases s with ⟨-, -, h⟩ | ⟨-, h⟩ <;> rw [h] <;> simp
@[simp] theorem advanceSeq_cfg (s : State) : (s.advanceSeq).cfg = s.cfg := by
  rcases advanceSeq_cases s with ⟨-, -, h⟩ | ⟨-, h⟩ <;> rw [h] <;> simp

/-! ### evaluate -/

@[simp] theorem evaluate_ch (s : State) : (s.evaluate).ch = s.ch := by
  unfold State.evaluate
  rcases evalAct_cases s.swing (sensorOpen s) with ⟨k, d, -, h⟩ | ⟨-, h⟩ <;> rw [h] <;> simp
@[simp] theorem evaluate_door (s : State) : (s.evaluate).door = s.door := by
  unfold State.evaluate
  rcases evalAct_cases s.swing (sensorOpen s) with ⟨k, d, -, h⟩ | ⟨-, h⟩ <;> rw [h] <;> simp
@[simp] theorem evaluate_evtBad (s : State) : (s.evaluate).evtBad = s.evtBad := by
  unfold State.evaluate
  rcases evalAct_cases s.swing (sensorOpen s) with ⟨k, d, -, h⟩ | ⟨-, h⟩ <;> rw [h] <;> simp
@[simp] theorem evaluate_evtLO (s : State) : (s.evaluate).evtLO = s.evtLO := by
  unfold State.evaluate
  rcases evalAct_cases s.swing (sensorOpen s) with ⟨k, d, -, h⟩ | ⟨-, h⟩ <;> rw [h] <;> simp
@[simp] theorem evaluate_evtRL (s : State) : (s.evaluate).evtRL = s.evtRL := by
  unfold State.evaluate
  rcases evalAct_cases s.swing (sensorOpen s) with ⟨k, d, -, h⟩ | ⟨-, h⟩ <;> rw [h] <;> simp
@[simp] theorem evaluate_evtRJ (s : State) : (s.evaluate).evtRJ = s.evtRJ := by
  unfold State.evaluate
  rcases evalAct_cases s.swing (sensorOpen s) with ⟨k, d, -, h⟩ | ⟨-, h⟩ <;> rw [h] <;> simp
@[simp] theorem evaluate_now (s : State) : (s.evaluate).now = s.now := by
  unfold State.evaluate
  rcases evalAct_cases s.swing (sensorOpen s) with ⟨k, d, -, h⟩ | ⟨-, h⟩ <;> rw [h] <;> simp
@[simp] theorem evaluate_refused (s : State) : (s.evaluate).refused = s.refused := by
  unfold State.evaluate
  rcases evalAct_cases s.swing (sensorOpen s) with ⟨k, d, -, h⟩ | ⟨-, h⟩ <;> rw [h] <;> simp
@[simp] theorem evaluate_refusals (s : State) : (s.evaluate).refusals = s.refusals := by
  unfold State.evaluate
  rcases evalAct_cases s.swing (sensorOpen s) with ⟨k, d, -, h⟩ | ⟨-, h⟩ <;> rw [h] <;> simp
@[simp] theorem evaluate_waiting (s : State) : (s.evaluate).waiting = s.waiting := by
  unfold State.evaluate
  rcases evalAct_cases s.swing (sensorOpen s) with ⟨k, d, -, h⟩ | ⟨-, h⟩ <;> rw [h] <;> simp
@[simp] theorem evaluate_busOut (s : State) : (s.evaluate).busOut = s.busOut := by
  unfold State.evaluate
  rcases evalAct_cases s.swing (sensorOpen s) with ⟨k, d, -, h⟩ | ⟨-, h⟩ <;> rw [h] <;> simp
@[simp] theorem evaluate_schedule (s : State) : (s.evaluate).schedule = s.schedule := by
  unfold State.evaluate
  rcases evalAct_cases s.swing (sensorOpen s) with ⟨k, d, -, h⟩ | ⟨-, h⟩ <;> rw [h] <;> simp
@[simp] theorem evaluate_cfg (s : State) : (s.evaluate).cfg = s.cfg := by
  unfold State.evaluate
  rcases evalAct_cases s.swing (sensorOpen s) with ⟨k, d, -, h⟩ | ⟨-, h⟩ <;> rw [h] <;> simp

/-- An evaluation consumes the trigger. -/
@[simp] theorem evaluate_doorTrig (s : State) : s.evaluate.doorTrig = false := by
  have hs : s.swing.doorTrig = false := by
    rcases swing_cases s with ⟨e, h⟩ | ⟨-, h⟩
    · rw [h, e]
    · rw [h]
  unfold State.evaluate
  rcases evalAct_cases s.swing (sensorOpen s) with ⟨k, d, -, h⟩ | ⟨-, h⟩ <;> rw [h] <;> simp [hs]

/-- An evaluation writes the locks as swing does. -/
@[simp] theorem evaluate_lk (s : State) : s.evaluate.lk = s.swing.lk := by
  unfold State.evaluate
  rcases evalAct_cases s.swing (sensorOpen s) with ⟨k, d, -, h⟩ | ⟨-, h⟩ <;> rw [h] <;> simp

end Sys2Proof.Machine
end

