-- ==== Sys2Proof/Laws/PerInstr.lean ====
section
/-! SUPPORT. Per stimulus: the encoded word of a well-formed stimulus matches its own row of the opcode table (R75, R77). -/

namespace Sys2Proof.Laws.EncodeHitsRow

/-- The word of a well-formed stimulus matches the row of its mnemonic. -/
def Statement (i : Instr) : Prop :=
  i.wf = true → ∃ r ∈ opcodeTable, r.mnemonic = i.mnemonic ∧ r.hits (encode i) = true

/-- A row whose mask and match are a head and a DATA each is hit when both parts are. -/
theorem hits_of_parts {r : OpRow} {hm hp h : BitVec 16} {dm dp d : Word} (em : r.mask = stimWord hm dm)
    (ep : r.pattern = stimWord hp dp) (eh : h &&& hm = hp) (ed : d &&& dm = dp) : r.hits (stimWord h d) = true := by
  unfold OpRow.hits
  rw [em, ep, stimWord_and, eh, ed, beq_self_eq_true]

theorem data_bit0 {data : Word} {b : Bool} (h : data.getLsbD 0 = b) : data &&& 0x1#32 = BitVec.setWidth 32 (BitVec.ofBool b) := by
  subst h
  refine BitVec.eq_of_getLsbD_eq fun k hk => ?_
  rw [BitVec.getLsbD_and, BitVec.getLsbD_setWidth, BitVec.getLsbD_ofBool, BitVec.getLsbD_one]
  rcases Nat.eq_zero_or_pos k with rfl | hp
  · simp
  · have : k ≠ 0 := by omega
    simp [this, hk]

theorem data_low4 (data : Word) : data &&& 0xF#32 = (data.extractLsb' 0 4).setWidth 32 := by
  apply BitVec.eq_of_toNat_eq
  rw [BitVec.toNat_and, BitVec.toNat_setWidth, BitVec.extractLsb'_toNat, Nat.shiftRight_zero]
  have h := Nat.and_two_pow_sub_one_eq_mod data.toNat 4
  have : data.toNat % 2 ^ 4 < 2 ^ 32 := by omega
  rw [Nat.mod_eq_of_lt this]
  simpa using h

theorem and_zero_data (data : Word) : data &&& 0x0#32 = 0x0#32 := by simp

theorem index_head (b : BitVec 16) (hb : b = 0x0000#16 ∨ b = 0x1000#16) (w : WordIdx) :
    (b ||| w.setWidth 16) &&& 0xFFC0#16 = b := by
  rcases hb with rfl | rfl <;> revert w <;> decide

theorem ctrl_head_entry : 0x1007#16 &&& 0xFFF7#16 = 0x1007#16 := by decide
theorem ctrl_head_exit : (0x1007#16 + 0x8#16) &&& 0xFFF7#16 = 0x1007#16 := by decide
theorem evt_head : 0x1010#16 &&& 0xFFFF#16 = 0x1010#16 := by decide
theorem cmd_head : 0x1012#16 &&& 0xFFFF#16 = 0x1012#16 := by decide

theorem rdChStatus (c : Dir) : Statement (.rdChStatus c) := by cases c <;> (unfold Statement; decide)
theorem rdChCount (c : Dir) : Statement (.rdChCount c) := by cases c <;> (unfold Statement; decide)
theorem rdChBufLo (c : Dir) : Statement (.rdChBufLo c) := by cases c <;> (unfold Statement; decide)
theorem rdChBufHi (c : Dir) : Statement (.rdChBufHi c) := by cases c <;> (unfold Statement; decide)
theorem rdChDlLo (c : Dir) : Statement (.rdChDlLo c) := by cases c <;> (unfold Statement; decide)
theorem rdChDlHi (c : Dir) : Statement (.rdChDlHi c) := by cases c <;> (unfold Statement; decide)
theorem rdChDecode (c : Dir) : Statement (.rdChDecode c) := by cases c <;> (unfold Statement; decide)

theorem wrChReset (c : Dir) (data : Word) : Statement (.wrChReset c data) := by
  intro h
  refine ⟨⟨"WR_CH_RESET", 0x100700000001#48, 0xFFF700000001#48⟩, by decide, rfl, ?_⟩
  exact hits_of_parts (hm := 0xFFF7#16) (dm := 0x1#32) (hp := 0x1007#16) (dp := 0x1#32) rfl rfl
    (by cases c; exacts [ctrl_head_entry, ctrl_head_exit]) (data_bit0 h)

theorem wrChCtrlNop (c : Dir) (data : Word) : Statement (.wrChCtrlNop c data) := by
  intro h
  refine ⟨⟨"WR_CH_CTRL_NOP", 0x100700000000#48, 0xFFF700000001#48⟩, by decide, rfl, ?_⟩
  exact hits_of_parts (hm := 0xFFF7#16) (dm := 0x1#32) (hp := 0x1007#16) (dp := 0x0#32) rfl rfl
    (by cases c; exacts [ctrl_head_entry, ctrl_head_exit]) (data_bit0 (by simpa [Instr.wf, -BitVec.getLsbD_eq_getElem] using h))

theorem rdEvtFlags : Statement .rdEvtFlags := by unfold Statement; decide

theorem wrEvtFlags (data : Word) : Statement (.wrEvtFlags data) := fun _ =>
  ⟨⟨"WR_EVT_FLAGS", 0x101000000000#48, 0xFFFF00000000#48⟩, by decide, rfl,
    hits_of_parts (hm := 0xFFFF#16) (dm := 0x0#32) (hp := 0x1010#16) (dp := 0x0#32) rfl rfl evt_head (and_zero_data data)⟩

theorem rdLockStatus : Statement .rdLockStatus := by unfold Statement; decide

theorem wrLockUnlock (data : Word) : Statement (.wrLockUnlock data) := by
  intro h
  refine ⟨⟨"WR_LOCK_UNLOCK", 0x101200000001#48, 0xFFFF0000000F#48⟩, by decide, rfl, ?_⟩
  refine hits_of_parts (hm := 0xFFFF#16) (dm := 0xF#32) (hp := 0x1012#16) (dp := 0x1#32) rfl rfl cmd_head ?_
  show data &&& 0xF#32 = 0x1#32
  rw [data_low4, eq_of_beq h]
  rfl

theorem wrLockCmdRsvd (data : Word) : Statement (.wrLockCmdRsvd data) := fun _ =>
  ⟨⟨"WR_LOCK_CMD_RSVD", 0x101200000000#48, 0xFFFF00000000#48⟩, by decide, rfl,
    hits_of_parts (hm := 0xFFFF#16) (dm := 0x0#32) (hp := 0x1012#16) (dp := 0x0#32) rfl rfl cmd_head (and_zero_data data)⟩

theorem rdCloseDlLo (d : Dir) : Statement (.rdCloseDlLo d) := by cases d <;> (unfold Statement; decide)
theorem rdCloseDlHi (d : Dir) : Statement (.rdCloseDlHi d) := by cases d <;> (unfold Statement; decide)
theorem rdLastRelockLo (d : Dir) : Statement (.rdLastRelockLo d) := by cases d <;> (unfold Statement; decide)
theorem rdLastRelockHi (d : Dir) : Statement (.rdLastRelockHi d) := by cases d <;> (unfold Statement; decide)
theorem rdNowLo : Statement .rdNowLo := by unfold Statement; decide
theorem rdNowHi : Statement .rdNowHi := by unfold Statement; decide

theorem rdReserved (w : WordIdx) : Statement (.rdReserved w) := fun _ =>
  ⟨⟨"RD_RESERVED", 0x000000000000#48, 0xFFC0FFFFFFFF#48⟩, by decide, rfl,
    hits_of_parts (hm := 0xFFC0#16) (dm := 0xFFFFFFFF#32) (hp := 0x0000#16) (dp := 0x0#32) rfl rfl
      (index_head _ (.inl rfl) w) (by decide : 0x0#32 &&& 0xFFFFFFFF#32 = 0x0#32)⟩

theorem wrIgnored (w : WordIdx) (data : Word) : Statement (.wrIgnored w data) := fun _ =>
  ⟨⟨"WR_IGNORED", 0x100000000000#48, 0xFFC000000000#48⟩, by decide, rfl,
    hits_of_parts (hm := 0xFFC0#16) (dm := 0x0#32) (hp := 0x1000#16) (dp := 0x0#32) rfl rfl
      (index_head _ (.inr rfl) w) (and_zero_data data)⟩

theorem pinD0Fall (c : Dir) : Statement (.pinD0Fall c) := by cases c <;> (unfold Statement; decide)
theorem pinD1Fall (c : Dir) : Statement (.pinD1Fall c) := by cases c <;> (unfold Statement; decide)
theorem pinDoorEdge : Statement .pinDoorEdge := by unfold Statement; decide
theorem tick : Statement .tick := by unfold Statement; decide
theorem reset : Statement .reset := by unfold Statement; decide
theorem eval : Statement .eval := by unfold Statement; decide
theorem seqAdvance : Statement .seqAdvance := by unfold Statement; decide

end Sys2Proof.Laws.EncodeHitsRow
end

