-- ==== Sys2Proof/Laws/Run.lean ====
section
/-! SUPPORT. Runs of several steps, and the step of a turn that brings a word or tries a waiting host access again. -/

namespace Sys2Proof.Machine

theorem run_zero (s : State) : Host.Core.run Sys2Proof.core 0 s = .next s := rfl

/-- A run takes its first step, then the rest. -/
theorem run_succ {s t : State} (n : Nat) (h : step s = .next t) :
    Host.Core.run Sys2Proof.core (n + 1) s = Host.Core.run Sys2Proof.core n t := by
  have e : Sys2Proof.core.step s = .next t := h
  simp only [Host.Core.run, e]

/-- A run in two parts. -/
theorem run_add {s t : State} (m n : Nat) (h : Host.Core.run Sys2Proof.core m s = .next t) :
    Host.Core.run Sys2Proof.core (m + n) s = Host.Core.run Sys2Proof.core n t := by
  induction m generalizing s with
  | zero =>
    rw [run_zero] at h
    injection h with h
    rw [← h, Nat.zero_add]
  | succ m ih =>
    have e : m + 1 + n = (m + n) + 1 := by omega
    cases hs : step s with
    | next u =>
      rw [run_succ m hs] at h
      rw [e, run_succ (m + n) hs]
      exact ih h
    | fault r => cases r
    | refused r =>
      have e' : Sys2Proof.core.step s = .refused r := hs
      simp only [Host.Core.run, e'] at h
      cases h

/-- A word that is no host access, or that finds the bus free, runs its stimulus. -/
theorem step_of_arrive {s : State} {x : StimWord} {rest : List Turn} {i : Instr} (hs : s.schedule = .arrive x :: rest)
    (hd : decode x = .ok i) (hb : (isBusAccess i && busStalled s) = false) :
    step s = exec i { s with schedule := rest } := by
  have hb' : (isBusAccess i && busStalled { s with schedule := rest }) = false := hb
  simp only [step, hs, takeTurn, arrive, hd, present, hb']
  rfl

/-- The oldest waiting host access runs when its hold has lifted. -/
theorem step_of_retry_bus {s : State} {rest : List Turn} {i : Instr} {more : List Instr}
    (hs : s.schedule = .retry .bus :: rest) (hb : s.waiting.bus = i :: more)
    (hh : heldNow i { s with schedule := rest } = false) :
    step s = exec i { s with schedule := rest, waiting := { s.waiting with bus := more } } := by
  simp [step, hs, takeTurn, retry, hb, hh]

end Sys2Proof.Machine
end

