-- ==== Sys2Proof/Laws/Safety.lean ====
section
/-! SUPPORT. What the checked parameters and the Boolean conditions of the operations say, in the terms of Safety.lean. -/

namespace Sys2Proof.Machine

/-- In a configuration without a bad parameter every parameter is in its range. -/
theorem durationOf_in_range {g : Config} (h : badParams g = []) (p : Param) :
    (durationOf g p).2 ≤ (durationOf g p).1 ∧ (durationOf g p).1 ≤ maxDuration := by
  have hp : p ∈ allParams := by cases p <;> decide
  have hok : paramOk g p = true := by
    by_contra hc
    have hb : p ∈ badParams g := by
      simp only [badParams, List.mem_filter]
      exact ⟨hp, by simpa using hc⟩
    rw [h] at hb
    simp at hb
  simpa [paramOk] using hok

/-- A sum `now + T` does not overflow (R190). -/
theorem add_duration_toNat {now : Time} {n : Nat} (h : now.toNat ≤ 2 ^ 63) (hn : n ≤ maxDuration) :
    (now + BitVec.ofNat 64 n).toNat = now.toNat + n := by
  simp only [BitVec.toNat_add, BitVec.toNat_ofNat, maxDuration] at *
  omega

theorem sensorOpen_iff (s : State) : sensorOpen s = true ↔ SensorReadsOpen s := by
  simp [sensorOpen, SensorReadsOpen]

theorem lockedOpenCand_iff {s : State} (h : badParams s.cfg = []) (d : Dir) :
    lockedOpenCand s (sensorOpen s) d = true ↔ LockedOpenDetected s d := by
  have hw := (durationOf_in_range h .obstructionWindow).2
  have e : (BitVec.ofNat 64 s.cfg.obstructionWindow).toNat = s.cfg.obstructionWindow := by
    simp only [durationOf, maxDuration] at hw
    simp
    omega
  unfold lockedOpenCand
  simp only [Bool.and_eq_true, sensorOpen_iff, BitVec.ult, e, decide_eq_true_eq, interlockOk]
  constructor
  · rintro ⟨⟨⟨⟨hl, hr⟩, ho⟩, hw⟩, hi⟩
    exact ⟨by simpa using hl, ho, hr, hw, by simpa using hi⟩
  · rintro ⟨hl, ho, hr, hw, hi⟩
    exact ⟨⟨⟨⟨by simpa using hl, hr⟩, ho⟩, hw⟩, by simpa using hi⟩

theorem relockCand_iff (s : State) (d : Dir) : relockCand s (sensorOpen s) d = true ↔ RelockDue s d := by
  unfold relockCand expired
  simp only [Bool.and_eq_true, BitVec.ult, decide_eq_true_eq]
  constructor
  · rintro ⟨⟨ho, hs⟩, hv, hd⟩
    exact ⟨ho, by rw [← sensorOpen_iff]; simpa using hs, hv, hd⟩
  · rintro ⟨ho, hs, hv, hd⟩
    exact ⟨⟨ho, by rw [← sensorOpen_iff] at hs; simpa using hs⟩, hv, hd⟩

/-- Swing, lock by lock. -/
theorem swing_lk_get (s : State) (d : Dir) :
    s.swing.lk.get d = if s.doorTrig then swingLock (s.after s.cfg.doorSwingTimeout) (s.lk.get d) else s.lk.get d := by
  rcases swing_cases s with ⟨h, e⟩ | ⟨h, e⟩ <;> rw [e] <;> simp [h]
  cases d <;> rfl

/-- Swing writes the locks and the trigger and nothing else. -/
theorem swing_frame (s : State) : s.swing = { s with lk := s.swing.lk, doorTrig := false } := by
  rcases swing_cases s with ⟨h, e⟩ | ⟨h, e⟩ <;> rw [e]
  cases s
  simp_all

end Sys2Proof.Machine
end

