-- ==== Sys2Proof/Tests/Slice0.lean ====
section
/-! SUPPORT. Tests with expected values from 95_test_vectors.md (the vector's id is in the name or the comment) or worked from
the rule named, and for every obligation with hypotheses a witness that meets them. -/

namespace Sys2Proof.Machine

/-! ### The test configuration of 95_test_vectors.md §0 -/

def testConfig : Config where
  tBit := 50
  doorTimeout := 60000
  doorSwingTimeout := 3000
  obstructionWindow := 2000
  lockedOpenTimeout := 3000
  pollDelay := 500
  tDriveOpen := 100
  tDriveClose := 100
  tHoldOpen := 200
  tHoldClose := 200
  sensorOpenLevel := true
  cfclBase := 0x4000

/-- "Reset state": R36 with `door` = 0. -/
def base : State := { State.reset with door := false, cfg := testConfig }

/-- The reset state at an instant. -/
def atMs (n : Nat) : State := { base with now := BitVec.ofNat 64 n }

/-- A sequence in a phase that ends at an instant. -/
def withSeq (s : State) (p : Phase) (d : Dir) (k : Kind) (e : Nat) : State :=
  { s with seq := { phase := p, dir := d, kind := k, endAt := BitVec.ofNat 64 e } }

/-- An `Unlocked` lock with a close deadline. -/
def unlockedTill (n : Nat) : Lock :=
  { isOpen := true, lo := false, cdv := true, cd := BitVec.ofNat 64 n, luv := false, lu := 0#64 }

/-- A `LockedOpen` lock with a close deadline. -/
def lockedOpenTill (n lu : Nat) : Lock :=
  { isOpen := true, lo := true, cdv := true, cd := BitVec.ofNat 64 n, luv := true, lu := BitVec.ofNat 64 lu }

/-- A `Locked` lock with a recorded re-lock. -/
def relockedAt (n : Nat) : Lock :=
  { isOpen := false, lo := false, cdv := false, cd := 0#64, luv := true, lu := BitVec.ofNat 64 n }

/-- A lock in place of direction `d`'s. -/
def withLk (s : State) (d : Dir) (l : Lock) : State := { s with lk := s.lk.set d l }

/-- A channel with these contents. -/
def withCh (s : State) (c : Dir) (buf cnt dl : Nat) : State :=
  { s with ch := s.ch.set c { buf := BitVec.ofNat 64 buf, cnt := BitVec.ofNat 8 cnt, dlv := true, dl := BitVec.ofNat 64 dl } }

/-- The state after one stimulus. -/
def after (i : Instr) (s : State) : Option State :=
  match exec i s with
  | .next t => some t
  | _ => none

/-- The value a bus read returns. -/
def readOf (i : Instr) (s : State) : Option Word := (after i s).bind State.busOut

/-- The state after one step. -/
def stepped (s : State) : Option State :=
  match step s with
  | .next t => some t
  | _ => none

/-- A state with one word to come. -/
def withWord (s : State) (x : StimWord) : State := { s with schedule := [.arrive x] }

/-! ### Ill-formed terms are refused (R77) -/

theorem test_wf_reset_needs_bit0 : (Instr.wrChReset .entry 0x2#32).wf = false := by decide
theorem test_wf_nop_needs_bit0_clear : (Instr.wrChCtrlNop .exit 0x1#32).wf = false := by decide
theorem test_wf_unlock_needs_cmd1 : (Instr.wrLockUnlock 0x102#32).wf = false := by decide
theorem test_wf_rsvd_excludes_cmd1 : (Instr.wrLockCmdRsvd 0x101#32).wf = false := by decide
theorem test_wf_reserved_read_excludes_named_words :
    (Instr.rdReserved 0x1D#6).wf = false ∧ (Instr.rdReserved 0x06#6).wf = false ∧ (Instr.rdReserved 0x1E#6).wf = true := by decide
theorem test_wf_ignored_write_excludes_named_words :
    (Instr.wrIgnored 0x07#6 0#32).wf = false ∧ (Instr.wrIgnored 0x10#6 0#32).wf = false ∧
    (Instr.wrIgnored 0x12#6 0#32).wf = false ∧ (Instr.wrIgnored 0x13#6 0#32).wf = true := by decide

/-! ### Words written out from R77's match and field columns -/

theorem test_decode_channel_reads :
    decode 0x000000000000#48 = .ok (.rdChStatus .entry) ∧ decode 0x000800000000#48 = .ok (.rdChStatus .exit) ∧
    decode 0x000100000000#48 = .ok (.rdChCount .entry) ∧ decode 0x000A00000000#48 = .ok (.rdChBufLo .exit) ∧
    decode 0x000300000000#48 = .ok (.rdChBufHi .entry) ∧ decode 0x000C00000000#48 = .ok (.rdChDlLo .exit) ∧
    decode 0x000500000000#48 = .ok (.rdChDlHi .entry) ∧ decode 0x000600000000#48 = .ok (.rdChDecode .entry) := by decide

theorem test_decode_lock_and_time_reads :
    decode 0x001000000000#48 = .ok .rdEvtFlags ∧ decode 0x001100000000#48 = .ok .rdLockStatus ∧
    decode 0x001400000000#48 = .ok (.rdCloseDlLo .entry) ∧ decode 0x001700000000#48 = .ok (.rdCloseDlHi .exit) ∧
    decode 0x001800000000#48 = .ok (.rdLastRelockLo .entry) ∧ decode 0x001B00000000#48 = .ok (.rdLastRelockHi .exit) ∧
    decode 0x001C00000000#48 = .ok .rdNowLo ∧ decode 0x001D00000000#48 = .ok .rdNowHi ∧
    decode 0x001300000000#48 = .ok (.rdReserved 0x13#6) ∧ decode 0x001200000000#48 = .ok (.rdReserved 0x12#6) := by decide

theorem test_decode_writes :
    decode 0x100700000001#48 = .ok (.wrChReset .entry 0x1#32) ∧ decode 0x100700000000#48 = .ok (.wrChCtrlNop .entry 0x0#32) ∧
    decode 0x101000000250#48 = .ok (.wrEvtFlags 0x250#32) ∧ decode 0x101200000101#48 = .ok (.wrLockUnlock 0x101#32) ∧
    decode 0x101200000011#48 = .ok (.wrLockUnlock 0x11#32) ∧ decode 0x10120000000F#48 = .ok (.wrLockCmdRsvd 0xF#32) ∧
    decode 0x100D00000000#48 = .ok (.wrIgnored 0x0D#6 0#32) ∧ decode 0x101C00000000#48 = .ok (.wrIgnored 0x1C#6 0#32) := by decide

theorem test_decode_pins_and_steps :
    decode 0x200000000000#48 = .ok (.pinD0Fall .entry) ∧ decode 0x200100000000#48 = .ok (.pinD1Fall .entry) ∧
    decode 0x200200000000#48 = .ok (.pinD0Fall .exit) ∧ decode 0x200300000000#48 = .ok (.pinD1Fall .exit) ∧
    decode 0x201000000000#48 = .ok .pinDoorEdge ∧ decode 0x300000000000#48 = .ok .tick ∧
    decode 0x400000000000#48 = .ok .reset ∧ decode 0x800000000000#48 = .ok .eval ∧
    decode 0x800100000000#48 = .ok .seqAdvance := by decide

/-- T15 to T20, and the boundaries of R76's list. -/
theorem test_decode_rejects :
    decode 0x004000000000#48 = .error .busArg ∧ decode 0x108000000000#48 = .error .busArg ∧
    decode 0x010000000000#48 = .error .reservedBits ∧ decode 0x380000000000#48 = .error .reservedBits ∧
    decode 0x500000000000#48 = .error .unknownClass ∧ decode 0x700000000000#48 = .error .unknownClass ∧
    decode 0x900000000000#48 = .error .unknownClass ∧ decode 0xF00000000000#48 = .error .unknownClass ∧
    decode 0x000000000001#48 = .error .operandData ∧ decode 0x200400000000#48 = .error .pinId ∧
    decode 0x201100000000#48 = .error .pinId ∧ decode 0x800200000000#48 = .error .subStep ∧
    decode 0x300000000001#48 = .error .operandData ∧ decode 0x300100000000#48 = .error .sysArg ∧
    decode 0x40FF00000000#48 = .error .sysArg ∧ decode 0x8001FFFFFFFF#48 = .error .operandData := by decide

theorem test_decodeTableWord :
    decodeTableWord 48 0x100F00000003 = some (.wrChReset .exit 0x3#32) ∧ decodeTableWord 48 0x500000000000 = none := by decide

/-- The most specific row of an UNLOCK word, of three that match (R75). -/
theorem test_most_specific :
    (mostSpecific (matchingRows 0x101200000111#48)).map OpRow.mnemonic = some "WR_LOCK_UNLOCK" ∧
    (matchingRows 0x101200000111#48).length = 3 := by decide

/-! ### Assembler text (R80, R81) -/

theorem test_assemble_program :
    assemble "reset ; start\n rd CH_STATUS(1)\nwr LOCK_CMD, 0x2\nrd w=0x3F\nwr CH_COUNT(0), 26\npin door" =
      some [.reset, .rdChStatus .exit, .wrLockCmdRsvd 0x2#32, .rdReserved 0x3F#6, .wrIgnored 0x01#6 0x1A#32,
        .pinDoorEdge] := by decide

/-- R81's expansions. -/
theorem test_assemble_pseudo :
    assemble "frame 1, 3, 0x6\ntick 2\nchreset 1\nunlock 1\nack 0x40" =
      some [.pinD1Fall .exit, .pinD1Fall .exit, .pinD0Fall .exit, .tick, .tick, .wrChReset .exit 0x1#32,
        .wrLockUnlock 0x101#32, .wrEvtFlags 0x40#32] := by decide

theorem test_assemble_rejects :
    assemble "rd NOPE" = none ∧ assemble "tick x" = none ∧ assemble "rd w=64" = none ∧ assemble "pin d0 2" = none := by decide

theorem test_disassemble : disassemble (.wrChReset .exit 0x3#32) = "WR_CH_RESET c=1 data=3" := by decide

/-- R24, R57: word 0x14 + 2 d of direction 1, at byte `CFCL_BASE` + 4 w. -/
theorem test_register_map :
    regIndex (.closeDlLo .exit) = 0x16 ∧ byteAddress testConfig 0x16#6 = 0x4058 ∧ regAt 0x13#6 = none := by decide

/-! ### Capture family (C1 to C20) -/

theorem test_C1 : (after (.pinD1Fall .exit) (atMs 7)).map (fun t => t.ch.exit) =
    some { buf := 0x1#64, cnt := 1#8, dlv := true, dl := 57#64 } := by decide
theorem test_C2 : (after (.pinD0Fall .entry) (withCh (atMs 1000) .entry 0x5 3 990)).map (fun t => t.ch.entry) =
    some { buf := 0xA#64, cnt := 4#8, dlv := true, dl := 1050#64 } := by decide
theorem test_C3_saturates : (after (.pinD1Fall .entry) (withCh (atMs 1000) .entry 0x5 255 990)).map (fun t => t.ch.entry) =
    some { buf := 0xB#64, cnt := 255#8, dlv := true, dl := 1050#64 } := by decide
theorem test_C4_loses_bit63 :
    (after (.pinD0Fall .entry) (withCh (atMs 1000) .entry 0xFFFFFFFFFFFFFFFF 64 990)).map (fun t => t.ch.entry) =
    some { buf := 0xFFFFFFFFFFFFFFFE#64, cnt := 65#8, dlv := true, dl := 1050#64 } := by decide
theorem test_C5 : readOf (.rdChStatus .entry) (withCh (atMs 1050) .entry 0 26 1050) = some 0x5#32 ∧
    readOf (.rdChStatus .entry) (withCh (atMs 1051) .entry 0 26 1050) = some 0x7#32 := by decide
theorem test_C6 : readOf (.rdChCount .entry) (withCh base .entry 0 26 50) = some 0x1A#32 := by decide
theorem test_C7 : readOf (.rdChBufHi .entry) (withCh base .entry 0x1FFFFFFFF 33 50) = some 0x1#32 ∧
    readOf (.rdChBufLo .entry) (withCh base .entry 0x1FFFFFFFF 33 50) = some 0xFFFFFFFF#32 := by decide
theorem test_C8 : readOf (.rdChDlLo .entry) (withCh base .entry 0 1 1050) = some 0x41A#32 ∧
    readOf (.rdChDlHi .entry) (withCh base .entry 0 1 1050) = some 0#32 := by decide
theorem test_C9 : after (.wrChReset .entry 0x1#32) (atMs 9) = some (atMs 9) := by decide
theorem test_C10 : (after (.wrChReset .entry 0x1#32) (withCh (atMs 2000) .entry 0x1403E9 26 1050)).bind (readOf .rdEvtFlags) =
    some 0#32 := by decide
theorem test_C11 : after (.wrChCtrlNop .exit 0xFFFFFFFE#32) (withCh (atMs 99) .exit 0x3 2 51) =
    some (withCh (atMs 99) .exit 0x3 2 51) := by decide
theorem test_C12 : (after (.wrChReset .exit 0x3#32) (withCh (atMs 99) .exit 0x3 2 51)).map (fun t => t.ch.exit) =
    some Capture.empty := by decide
theorem test_C13 : readOf (.rdChDecode .entry) (withCh base .entry 0x1403E9 26 50) = some 0x800A01F4#32 := by decide
theorem test_C15_C17 : readOf (.rdChDecode .exit) (withCh base .exit 0x1FFFFFF 26 50) = some 0x80FFFFFF#32 ∧
    readOf (.rdChDecode .exit) (withCh base .exit 0x2000000 26 50) = some 0x80000000#32 := by decide

/-- S1: the source's decode table. -/
theorem test_S1 : decodeFrame 26#8 0x5AAAAB#64 = some { facility := 45#8, card := 21845#16 } ∧
    decodeFrame 25#8 0x5AAAAB#64 = none ∧ decodeFrame 27#8 0x5AAAAB#64 = none ∧
    decodeFrame 255#8 0xFFFFFFFFFFFFFFFF#64 = none := by decide

/-! ### Lock-driver family (L1 to L17) -/

theorem test_L1 : (after (.wrLockUnlock 0x1#32) (atMs 1000)).map (fun t => (t.seq, act t .entry)) =
    some ({ phase := .drive, dir := .entry, kind := .unlockPermit, endAt := 1100#64 }, .driveOpen) := by decide
theorem test_L1_status : readOf .rdLockStatus (withSeq (atMs 1000) .drive .entry .unlockPermit 1100) = some 0x520#32 ∧
    readOf .rdLockStatus (withSeq (atMs 1100) .hold .entry .unlockPermit 1300) = some 0xE20#32 := by decide
theorem test_L1b : (after .seqAdvance (withSeq (atMs 1100) .drive .entry .unlockPermit 1100)).map State.seq =
    some { phase := .hold, dir := .entry, kind := .unlockPermit, endAt := 1300#64 } := by decide
theorem test_L1c : (after .seqAdvance (withSeq (atMs 1300) .hold .entry .unlockPermit 1300)).map (fun t => (t.lk.entry, t.seq.phase)) =
    some (unlockedTill 61300, .idle) := by decide
theorem test_L1c_deadline : readOf (.rdCloseDlLo .entry) (withLk base .entry (unlockedTill 61300)) = some 0xEF74#32 ∧
    readOf (.rdCloseDlHi .exit) (withLk base .exit (unlockedTill 0x100000010)) = some 0x1#32 := by decide
theorem test_L2 : (after (.wrLockUnlock 0x1#32) (withLk base .exit (unlockedTill 5))).bind (readOf .rdEvtFlags) =
    some 0x100#32 := by decide
theorem test_L4_L5b : (after (.wrLockCmdRsvd 0x2#32) (withSeq base .drive .entry .relock 9)).bind (readOf .rdEvtFlags) =
    some 0x8#32 := by decide
theorem test_L7a : (after .eval { withLk (atMs 60000) .entry (unlockedTill 61300) with doorTrig := true }).map
    (fun t => (t.lk.entry, t.doorTrig)) = some (unlockedTill 63000, false) := by decide
theorem test_L7c_L8b :
    (after .eval { withLk (atMs 4000) .entry (lockedOpenTill 5000 1000) with doorTrig := true }).map
      (fun t => (t.lk.entry, t.evalHold)) = some (lockedOpenTill 5000 1000, 4500#64) ∧
    (after .eval (withLk (atMs 61301) .entry (unlockedTill 61300))).bind (readOf .rdLockStatus) = some 0x18921#32 := by decide
theorem test_L8c : (after .seqAdvance (withSeq (withLk (atMs 61601) .entry (unlockedTill 61300)) .hold .entry .relock 61601)).map
    (fun t => (t.lk.entry, t.evtRL.entry)) = some (relockedAt 61601, true) := by decide
theorem test_L8c_reads : readOf (.rdLastRelockLo .entry) (withLk base .entry (relockedAt 61601)) = some 0xF0A1#32 ∧
    readOf (.rdLastRelockHi .entry) (withLk base .entry (relockedAt 0x200000000)) = some 0x2#32 := by decide
theorem test_L13 : (after .seqAdvance (withSeq (withLk (atMs 5601) .entry (lockedOpenTill 5300 1000)) .hold .entry .relock 5601)).map
    (fun t => t.lk.entry) = some (relockedAt 1000) := by decide
theorem test_L15 : (after .pinDoorEdge base).map (fun t => (t.door, t.doorTrig)) = some (true, true) := by decide
theorem test_L17 : readOf .rdLockStatus (withLk base .entry (unlockedTill 5)) = some 0x10001#32 := by decide

/-! ### Timebase, bus and reset (T1 to T14, X1, X2) -/

theorem test_T1 : (after .tick (withCh (atMs 1050) .entry 1 1 1050)).map (fun t => (t.now, ready t .entry)) =
    some (1051#64, true) := by decide
theorem test_T2 : (after .tick (withSeq (atMs 1100) .drive .entry .unlockPermit 1100)).map (fun t => (t.now, t.waiting.ticks)) =
    some (1100#64, 1) := by decide
theorem test_T5 : (after .tick (atMs (2 ^ 63))).map (fun t => (t.now, t.refused, t.refusals.map refusalCode)) =
    some (0x8000000000000000#64, true, [2]) := by decide
theorem test_T6_T7 : readOf .rdNowLo (atMs 61300) = some 0xEF74#32 ∧ readOf .rdNowHi (atMs 0x100000005) = some 0x1#32 := by decide
theorem test_T8 : readOf .rdEvtFlags { withCh (atMs 1051) .entry 1 1 1050 with doorTrig := true } = some 0x5#32 := by decide
theorem test_T9 : (after (.wrEvtFlags 0x40#32) { base with
    evtLO := { entry := true, exit := false }, evtRL := { entry := true, exit := false } }).bind (readOf .rdEvtFlags) =
    some 0x10#32 := by decide
theorem test_T11 : (after (.wrEvtFlags 0x3FF#32) { withCh (atMs 1051) .exit 1 1 1050 with evtBad := true, doorTrig := true }).bind
    (readOf .rdEvtFlags) = some 0x6#32 := by decide
theorem test_T12 : readOf (.rdReserved 0x13#6) (withCh (atMs 7) .exit 1 1 57) = some 0#32 := by decide
theorem test_T13 : after (.wrIgnored 0x01#6 0x1A#32) (withCh base .entry 5 3 50) = some (withCh base .entry 5 3 50) := by decide
theorem test_X1 : (after .reset { withSeq (withLk (atMs 5000) .entry (unlockedTill 61300)) .hold .exit .relock 5100 with
    evtBad := true, evtRL := { entry := true, exit := false }, door := true }) = some { base with door := true } := by decide
theorem test_X2 : (after .reset { base with refused := true }).map State.refused = some true := by decide

/-! ### Witnesses: states and operands that meet the hypotheses of the obligations -/

/-- A busy sequence and one stalled unlock request, with a turn to come. -/
def stalled (turn : Turn) : State :=
  { withSeq (atMs 1000) .drive .entry .unlockPermit 1100 with
    waiting := { bus := [.wrLockUnlock 0x101#32], ticks := 0, evals := 0, seqAdvances := 0 }
    schedule := [turn] }

/-- One waiting stimulus of each kind, IDLE, with a retry turn to come. -/
def allWait (k : HeldKind) (s : State) : State :=
  { s with
    waiting := { bus := [.wrLockUnlock 0x1#32], ticks := 1, evals := 1, seqAdvances := 1 }
    schedule := [.retry k] }

theorem witness_StepRunsTheDecodedStimulus :
    (∃ rest, (withWord (stalled (.retry .bus)) 0x300000000000#48).schedule = .arrive 0x300000000000#48 :: rest) ∧
    decode 0x300000000000#48 = .ok .tick ∧ isBusAccess .tick = false ∧
    decode 0x001C00000000#48 = .ok .rdNowLo ∧ isBusAccess .rdNowLo = true ∧ base.waiting.bus = [] :=
  ⟨⟨_, rfl⟩, by decide⟩

theorem witness_HostAccessBehindAStalledOneWaits :
    (stalled (.arrive 0x001C00000000#48)).schedule = [.arrive 0x001C00000000#48] ∧
    decode 0x001C00000000#48 = .ok .rdNowLo ∧ isBusAccess .rdNowLo = true ∧
    (stalled (.arrive 0x001C00000000#48)).waiting.bus ≠ [] := by decide

theorem witness_IllegalWordsAreRefusedAndOnlyMarked :
    (withWord base 0x010000000000#48).schedule = [.arrive 0x010000000000#48] ∧
    decode 0x010000000000#48 = .error .reservedBits ∧
    (stepped (withWord base 0x010000000000#48)).map State.refusals = some [.illegalStimulus 0x010000000000#48] := by decide

theorem witness_HeldStimulusOnlyWaits :
    heldNow (.wrLockUnlock 0x1#32) (withSeq (atMs 1000) .drive .entry .relock 1100) = true ∧
    heldNow .seqAdvance (withSeq (atMs 1099) .drive .entry .relock 1100) = true ∧
    heldNow .seqAdvance (withSeq (atMs 1100) .drive .entry .relock 1100) = false ∧ heldNow .seqAdvance base = true ∧
    heldNow .eval { atMs 3199 with evalHold := 3200#64 } = true ∧ heldNow .eval { atMs 3200 with evalHold := 3200#64 } = false ∧
    heldNow .tick { base with doorTrig := true } = true ∧
    heldNow .tick { withLk (atMs 3000) .entry (lockedOpenTill 5000 1) with evalHold := 3200#64 } = false ∧
    heldNow .tick { atMs (2 ^ 63) with doorTrig := true } = false := by decide

theorem witness_WaitingStimulusRunsOnceItsHoldLifts :
    (heldNow (.wrLockUnlock 0x1#32) (allWait .bus base) = false ∧ heldNow (.wrLockUnlock 0x101#32) (stalled (.retry .bus)) = true) ∧
    (heldNow .tick (allWait .tick base) = false ∧ heldNow .tick (allWait .tick { base with doorTrig := true }) = true) ∧
    (heldNow .eval (allWait .eval base) = false ∧ heldNow .eval (allWait .eval { base with evalHold := 1#64 }) = true) ∧
    (heldNow .seqAdvance (allWait .seqAdvance (withSeq (atMs 5) .hold .entry .relock 5)) = false ∧
      heldNow .seqAdvance (allWait .seqAdvance base) = true) ∧
    (stepped (allWait .tick base)).map (fun t => (t.now, t.waiting.ticks)) = some (1#64, 0) := by decide

theorem witness_DecodeOfEncodeIsTheStimulus : (Instr.wrLockUnlock 0xFFFFFF11#32).wf = true ∧ (Instr.rdReserved 0x1E#6).wf = true ∧
    (Instr.rdReserved 0x3F#6).wf = true ∧ (Instr.wrIgnored 0x3F#6 0xFFFFFFFF#32).wf = true := by decide

theorem witness_EncodeOfDecodeIsTheWord : decode 0x100FFFFFFFFE#48 = .ok (.wrChCtrlNop .exit 0xFFFFFFFE#32) := by decide

theorem witness_DecoderTakesTheMostSpecificRow :
    ((matchingRows 0x001C00000000#48).map OpRow.mnemonic = ["RD_NOW_LO", "RD_RESERVED"]) ∧
    matchingRows 0x004000000000#48 = [] := by decide

/-- A frame of any length, of one bit and of 64 bits too, on an EMPTY channel. -/
theorem witness_FrameEdgesAssembleTheFrame (n v : Nat) :
    ∃ s : State, s.ch.get .exit = Capture.empty ∧
      s.schedule = (frameEdges .exit n v).map (fun i => .arrive (encode i)) ++ [] :=
  ⟨{ base with schedule := (frameEdges .exit n v).map (fun i => .arrive (encode i)) ++ [] }, rfl, rfl⟩

theorem witness_CapturedFrameDecodes :
    base.ch.get .entry = Capture.empty ∧ base.waiting.bus = [] ∧
    ∃ s : State, s.ch.get .entry = Capture.empty ∧ s.waiting.bus = [] ∧
      s.schedule = (frameEdges .entry 26 0x1403E9).map (fun i => .arrive (encode i)) ++ [.arrive (encode (.rdChDecode .entry))] :=
  ⟨by decide, by decide,
    { base with
      schedule := (frameEdges .entry 26 0x1403E9).map (fun i => .arrive (encode i)) ++ [.arrive (encode (.rdChDecode .entry))] },
    by decide, by decide, rfl⟩

/-- A write to a read-only word, and to CH_CTRL(0) and CH_CTRL(1) with DATA[0] = 0. -/
theorem witness_IneffectiveWritesChangeNothing :
    (0x01#6 : WordIdx).toNat ≠ 0x10 ∧ (0x01#6 : WordIdx).toNat ≠ 0x12 ∧ (0x07#6 : WordIdx).toNat = 0x07 ∧
    (0x0F#6 : WordIdx).toNat = 0x0F ∧ (0xFFFFFFFE#32 : Word).getLsbD 0 = false := by decide

theorem witness_DecodeRegisterIsTheFrameDecoder :
    ((withCh base .exit 0x1403E9 26 50).ch.get .exit).cnt.toNat = 26 ∧
    ((withCh base .exit 0x1403E9 25 50).ch.get .exit).cnt.toNat ≠ 26 ∧
    ((withCh base .exit 0x1403E9 27 50).ch.get .exit).cnt.toNat ≠ 26 := by decide

/-- An edge at 1000: not ready at 1050, ready at 1051. -/
theorem witness_ReadyOneMillisecondAfterTheTimeout :
    badParams (atMs 1000).cfg = [] ∧ (atMs 1000).now.toNat ≤ 2 ^ 63 ∧
    ∃ t, exec (.pinD1Fall .entry) (atMs 1000) = .next t ∧
      ready { t with now := 1050#64 } .entry = false ∧ ready { t with now := 1051#64 } .entry = true :=
  ⟨by decide, by decide, _, rfl, by decide⟩

theorem witness_EdgeRacesHaveTheListedOutcomes :
    ∃ t, exec (.pinD0Fall .exit) (withCh base .exit 0xC60002 26 50) = .next t ∧
      ((withCh base .exit 0xC60002 26 50).ch.get .exit).cnt.toNat = 26 ∧ (t.ch.get .exit).cnt = 27#8 :=
  ⟨_, rfl, by decide, by decide⟩

/-- A TICK takes RECEIVING at its deadline to READY; an edge takes READY to RECEIVING; a reset takes it to EMPTY. -/
theorem witness_CapturePhaseTransitions :
    badParams (withCh (atMs 1050) .entry 1 1 1050).cfg = [] ∧
    capturePhase (withCh (atMs 1050) .entry 1 1 1050) .entry = .receiving ∧
    (after .tick (withCh (atMs 1050) .entry 1 1 1050)).map (capturePhase · .entry) = some .ready ∧
    (after (.pinD0Fall .entry) (withCh (atMs 1051) .entry 1 1 1050)).map (capturePhase · .entry) = some .receiving ∧
    (after (.wrChReset .entry 0x1#32) (withCh (atMs 1051) .entry 1 1 1050)).map (capturePhase · .entry) = some .empty := by
  decide

/-- Two states that agree on channel 1 and not on channel 0 or the locks. -/
theorem witness_CaptureFamilyIsLocalToItsChannel :
    (withCh base .exit 3 2 50).ch.get .exit = (withLk (withCh (withCh base .exit 3 2 50) .entry 1 1 50) .entry (unlockedTill 9)).ch.get .exit ∧
    (∃ t, exec (.rdChCount .exit) (withCh base .exit 3 2 50) = .next t) ∧
    (∃ t, exec (.rdChCount .exit) (withLk (withCh (withCh base .exit 3 2 50) .entry 1 1 50) .entry (unlockedTill 9)) = .next t) :=
  ⟨by decide, ⟨_, rfl⟩, ⟨_, rfl⟩⟩

theorem witness_UnlockRequestStartsOrIsRejected :
    (0x101#32 : Word).getLsbD 8 = true ∧ (base.seq.phase = .idle ∧ (base.lk.get .entry).isOpen = false) ∧
    ((withLk base .entry (unlockedTill 5)).seq.phase = .idle ∧ ((withLk base .entry (unlockedTill 5)).lk.get .entry).isOpen = true) ∧
    (withSeq base .drive .entry .relock 5).seq.phase ≠ .idle := by decide

theorem witness_ReservedLockCommandsSetBadCmd :
    (0x100#32 : Word).toNat % 16 ≠ 1 ∧ (0x2#32 : Word).toNat % 16 ≠ 1 ∧ (0xF#32 : Word).toNat % 16 ≠ 1 := by decide

theorem witness_DrivePhaseIsFollowedByHold :
    (withSeq (atMs 1100) .drive .exit .relock 1100).seq.phase = .drive ∧
    (withSeq (atMs 1100) .drive .exit .relock 1100).seq.endAt.toNat ≤ (withSeq (atMs 1100) .drive .exit .relock 1100).now.toNat ∧
    0 < testConfig.tHoldClose := by decide

/-- Both ways to a commit: the end of HOLD, and the end of DRIVE without a hold time (L6). -/
theorem witness_commits (k : Kind) :
    (withSeq (atMs 1300) .hold .exit k 1300).seq.phase = .hold ∧
    (withSeq (atMs 1300) .hold .exit k 1300).seq.endAt.toNat ≤ (withSeq (atMs 1300) .hold .exit k 1300).now.toNat ∧
    (withSeq { atMs 1100 with cfg := { testConfig with tHoldOpen := 0, tHoldClose := 0 } } .drive .exit k 1100).seq.phase = .drive ∧
    holdTime { testConfig with tHoldOpen := 0, tHoldClose := 0 } k = 0 := by
  cases k <;> decide

/-- A detection for each direction at the last ms of the window (S5), with `u` the state after swing. -/
theorem witness_eval_detects (d : Dir) :
    LockedOpenDetected { withLk (atMs 11999) d (relockedAt 10000) with door := true } d ∧
    ¬LockedOpenDetected { withLk (atMs 12000) d (relockedAt 10000) with door := true } d := by
  constructor
  · cases d <;> exact ⟨by decide, rfl, by decide, by decide, by decide⟩
  · intro h
    have := h.within_window
    revert this
    cases d <;> decide

/-- A due re-lock for each direction, one ms after the deadline, and none at it (L8a, L8b). -/
theorem witness_eval_relocks (d : Dir) :
    RelockDue (withLk (atMs 61301) d (unlockedTill 61300)) d ∧ ¬RelockDue (withLk (atMs 61300) d (unlockedTill 61300)) d := by
  constructor
  · cases d <;> exact ⟨by decide, by unfold SensorReadsOpen; decide, by decide, by decide⟩
  · intro h
    have := h.deadline_passed
    revert this
    cases d <;> decide

/-- The hypotheses of EvalSwingsThenStartsTheFirstCandidate in L7a: a swing raises the deadline and nothing else happens. -/
theorem witness_EvalSwingsThenStartsTheFirstCandidate :
    ∃ s u : State, badParams s.cfg = [] ∧ s.now.toNat ≤ 2 ^ 63 ∧ s.seq.phase = .idle ∧ s.evalHold.toNat ≤ s.now.toNat ∧
      u = { s with lk := u.lk, doorTrig := false } ∧
      (∀ d, u.lk.get d = { s.lk.get d with
        cd := if s.doorTrig = true ∧ (s.lk.get d).isOpen = true ∧ (s.lk.get d).lo = false
          then BitVec.ofNat 64 (max (s.lk.get d).cd.toNat (s.now.toNat + s.cfg.doorSwingTimeout)) else (s.lk.get d).cd }) ∧
      (∀ d, ¬LockedOpenDetected u d ∧ ¬RelockDue u d) := by
  refine ⟨{ withLk (atMs 60000) .entry (unlockedTill 61300) with doorTrig := true }, withLk (atMs 60000) .entry (unlockedTill 63000),
    by decide, by decide, by decide, by decide, rfl, ?_, ?_⟩
  · intro d
    cases d <;> decide
  · intro d
    refine ⟨fun h => ?_, fun h => ?_⟩
    · have := h.relock_recorded
      revert this
      cases d <;> decide
    · have := h.deadline_passed
      have := h.has_deadline
      revert this
      revert this
      cases d <;> decide

theorem witness_SwingNeverShortens :
    ∃ t, exec .eval { withLk (atMs 60000) .entry (unlockedTill 70000) with doorTrig := true } = .next t ∧
      t.lk.entry.cd = 70000#64 := ⟨_, rfl, by decide⟩

/-- L10. -/
theorem witness_PendingDoorEdgeKeepsTheDoorUnlocked :
    ∃ t, exec .eval { withLk (atMs 61301) .entry (unlockedTill 61300) with doorTrig := true } = .next t ∧
      badParams testConfig = [] ∧ t.lk.entry.cd = 64301#64 ∧ t.seq.phase = .idle := ⟨_, rfl, by decide, by decide, by decide⟩

/-- L8a: enabled and not productive. -/
theorem witness_UnproductiveEvalChangesNothing :
    evalHeld (withLk (atMs 61300) .entry (unlockedTill 61300)) = false ∧
    evalProductive (withLk (atMs 61300) .entry (unlockedTill 61300)) = false := by decide

/-- An open lock, a frame in progress and a running re-lock, with a TICK to come. -/
def busyState : State :=
  withWord (withSeq (withCh (withLk (atMs 61301) .entry (unlockedTill 61300)) .exit 5 3 61340) .drive .entry .relock 61401)
    0x300000000000#48

/-- The invariant holds there: for the statements with the hypothesis BlockInv. -/
theorem witness_BlockInv : BlockInv busyState where
  config_in_range := by decide
  time_bound := by decide
  capture_entry := ⟨by decide, by decide, by decide, by decide⟩
  capture_exit := ⟨by decide, by decide, by decide, by decide⟩
  lock_entry := ⟨by decide, by decide, by decide, by decide, by decide, by decide⟩
  lock_exit := ⟨by decide, by decide, by decide, by decide, by decide, by decide⟩
  sequencer := ⟨by decide, by decide, by decide, by decide, by decide, by decide, by decide⟩
  exclusive := by unfold DoorsExclusive; decide
  hold_bound := by decide
  refused_iff_recorded := by decide
  bus_accesses_wait := by decide

/-- And it takes a step: for EveryStepKeepsTheInvariant. -/
theorem witness_EveryStepKeepsTheInvariant : (stepped busyState).map State.now = some 61302#64 := by decide

theorem witness_ActuatorLevelsFollowTheSequencer :
    (withSeq base .drive .exit .unlockLockedOpen 5).seq.phase = .drive ∧ (withSeq base .drive .exit .relock 5).seq.kind = .relock ∧
    (withSeq base .hold .exit .relock 5).seq.phase = .hold ∧ base.seq.phase = .idle ∧
    (withSeq base .hold .exit .relock 5).seq.dir ≠ .entry := by decide

/-- A re-lock of 2 ms of drive and 1 ms of hold, and one with no hold phase. -/
theorem witness_SequenceHasTheActuatorWaveform (hold : Nat) (h : hold ≤ 1) :
    ∃ s : State, 2 = driveTime s.cfg s.seq.kind ∧ hold = holdTime s.cfg s.seq.kind ∧ s.seq.phase = .drive ∧
      s.seq.endAt = s.now + BitVec.ofNat 64 2 ∧ s.now.toNat + 2 + hold ≤ 2 ^ 63 ∧
      s.schedule = List.replicate 2 (.arrive 0x300000000000#48) ++ .arrive 0x800100000000#48 ::
        (if 0 < hold then List.replicate hold (.arrive 0x300000000000#48) ++ [.arrive 0x800100000000#48] else []) :=
  ⟨{ withSeq (atMs 10) .drive .entry .relock 12 with
      cfg := { testConfig with tDriveClose := 2, tHoldClose := hold }
      schedule := List.replicate 2 (.arrive 0x300000000000#48) ++ .arrive 0x800100000000#48 ::
        (if 0 < hold then List.replicate hold (.arrive 0x300000000000#48) ++ [.arrive 0x800100000000#48] else []) },
    rfl, rfl, rfl, by show 12#64 = 10#64 + 2#64; decide, by show 10 + 2 + hold ≤ 2 ^ 63; omega, rfl⟩

/-- A request for the entry held behind an unlock of the exit that is due. -/
theorem witness_HeldRequestIsJudgedWhenItRuns :
    let s := { withSeq (atMs 1300) .hold .exit .unlockPermit 1300 with
      waiting := { bus := [.wrLockUnlock 0x1#32], ticks := 0, evals := 0, seqAdvances := 0 }
      schedule := [.arrive 0x800100000000#48, .retry .bus] }
    (0x1#32 : Word).getLsbD 8 = false ∧ s.seq.phase = .hold ∧ s.seq.kind = .unlockPermit ∧ s.seq.dir = opp .entry ∧
      s.seq.endAt.toNat ≤ s.now.toNat ∧ s.waiting.bus = [.wrLockUnlock 0x1#32] ∧
      s.schedule = [.arrive 0x800100000000#48, .retry .bus] := by decide

/-- X3. -/
theorem witness_HeldRequestSurvivesReset :
    let s := { stalled (.retry .bus) with schedule := [.arrive 0x400000000000#48, .retry .bus] }
    (0x101#32 : Word).getLsbD 8 = true ∧ s.seq.phase ≠ .idle ∧ s.waiting.bus = [.wrLockUnlock 0x101#32] ∧
      s.schedule = [.arrive 0x400000000000#48, .retry .bus] := by decide

/-- The clauses meet at 2^63 (T5): from there on a TICK is refused even while an internal step is pending. -/
theorem witness_TickAdvancesTimeOrWaits :
    2 ^ 63 ≤ (atMs (2 ^ 63)).now.toNat ∧
    ((atMs (2 ^ 63 - 1)).now.toNat < 2 ^ 63 ∧ internalPending (atMs (2 ^ 63 - 1)) = false) ∧
    internalPending { atMs (2 ^ 63 - 1) with doorTrig := true } = true := by decide

theorem witness_PowerOnIsTheResetState : badParams testConfig = [] ∧ badParams { testConfig with tBit := 4294967295, tHoldOpen := 0 } = [] ∧
    badParams { testConfig with tBit := 0 } = [.tBit] ∧ badParams { testConfig with tHoldOpen := 4294967296 } = [.tHoldOpen] := by decide

/-- A reachable state: power-on with the test configuration, then the turn that brings a TICK. -/
theorem witness_Reachable : ∃ s, Reachable s ∧ s.now = 1#64 :=
  ⟨_, ⟨testConfig, false, [.arrive 0x300000000000#48], 1, by decide, rfl⟩, by decide⟩

/-- A sequence of each kind that is due to commit at 5 ms. -/
def dueState (k : Kind) : State :=
  withSeq (if k = .relock then withLk (atMs 5) .entry (unlockedTill 3) else atMs 5) .hold .entry k 5

theorem witness_dueState_inv (k : Kind) : BlockInv (dueState k) := by
  cases k <;> exact ⟨by decide, by decide, ⟨by decide, by decide, by decide, by decide⟩, ⟨by decide, by decide, by decide, by decide⟩,
    ⟨by decide, by decide, by decide, by decide, by decide, by decide⟩, ⟨by decide, by decide, by decide, by decide, by decide, by decide⟩,
    ⟨by decide, by decide, by decide, by decide, by decide, by decide, by decide⟩, by unfold DoorsExclusive; decide, by decide,
    by decide, by decide⟩

/-- Each way R171 lets the lock state change: RESET and the commits of the three kinds. -/
theorem witness_LockStateChangesOnlyByCommitOrReset :
    (after .reset (dueState .relock)).map (fun t => lockMode t.lk.entry) = some (some .locked) ∧
    (after .seqAdvance (dueState .unlockPermit)).map (fun t => lockMode t.lk.entry) = some (some .unlocked) ∧
    (after .seqAdvance (dueState .unlockLockedOpen)).map (fun t => lockMode t.lk.entry) = some (some .lockedOpen) ∧
    (after .seqAdvance (dueState .relock)).map (fun t => lockMode t.lk.entry) = some (some .locked) ∧
    lockMode (dueState .relock).lk.entry = some .unlocked ∧ lockMode (dueState .unlockPermit).lk.entry = some .locked := by decide

theorem witness_OnlyTickAndResetWriteNow :
    (∃ t, exec .tick (atMs 7) = .next t ∧ t.now ≠ (atMs 7).now) ∧ (∃ t, exec .reset (atMs 7) = .next t ∧ t.now ≠ (atMs 7).now) :=
  ⟨⟨_, rfl, by decide⟩, ⟨_, rfl, by decide⟩⟩

theorem witness_OnlyEdgesAndResetsWriteCaptureState :
    (∃ t, exec (.pinD1Fall .exit) base = .next t ∧ t.ch.get .exit ≠ base.ch.get .exit) ∧
    (∃ t, exec .reset (withCh base .exit 1 1 50) = .next t ∧ t.ch.get .exit ≠ (withCh base .exit 1 1 50).ch.get .exit) :=
  ⟨⟨_, rfl, by decide⟩, ⟨_, rfl, by decide⟩⟩

/-- A flag of each kind set, and one cleared, by the steps R27 lists. -/
theorem witness_FlagsAreWrittenOnlyByTheListedSteps :
    (after .pinDoorEdge base).map State.doorTrig = some true ∧
    (after .eval { base with doorTrig := true }).map State.doorTrig = some false ∧
    (after (.wrLockCmdRsvd 0x0#32) base).map State.evtBad = some true ∧
    (after .seqAdvance (withSeq (atMs 5) .hold .exit .unlockLockedOpen 5)).map (fun t => t.evtLO.exit) = some true ∧
    (after .seqAdvance (withSeq (withLk (atMs 5) .exit (unlockedTill 3)) .hold .exit .relock 5)).map (fun t => t.evtRL.exit) = some true ∧
    (after (.wrLockUnlock 0x101#32) (withLk base .entry (unlockedTill 5))).map (fun t => t.evtRJ.exit) = some true ∧
    (after (.wrEvtFlags 0x8#32) { base with evtBad := true }).map State.evtBad = some false := by decide

theorem witness_RefusedMarkIsSticky :
    (stepped { withWord base 0x400000000000#48 with refused := true, refusals := [.illegalStimulus 0x500000000000#48] }).map
      State.refused = some true := by decide

/-- What the host asks of `withFetchWord`: the very next step runs the word, from reset and on a stalled bus. -/
theorem test_withFetchWord :
    (stepped ((stalled (.retry .bus)).withFetchWord 48 0x001C00000000)).bind State.busOut = some 1000#32 ∧
    (stepped ({ base with refused := false }.withFetchWord 48 0x201000000000)).map State.doorTrig = some true := by decide

end Sys2Proof.Machine
end

section
/-! O5: a held stimulus only waits (R8, R212). -/

namespace Sys2Proof.Machine

/-- Only these four stimuli are ever held, each by the hold of its own meaning (R212). -/
theorem heldNow_cases {i : Instr} {s : State} (h : heldNow i s = true) :
    (∃ data, i = .wrLockUnlock data ∧ unlockHeld s = true) ∨ (i = .seqAdvance ∧ seqAdvanceHeld s = true) ∨
    (i = .eval ∧ evalHeld s = true) ∨ (i = .tick ∧ tickHeld s = true) := by
  cases i with
  | wrLockUnlock data => exact .inl ⟨data, rfl, h⟩
  | seqAdvance => exact .inr (.inl ⟨rfl, h⟩)
  | eval => exact .inr (.inr (.inl ⟨rfl, h⟩))
  | tick => exact .inr (.inr (.inr ⟨rfl, h⟩))
  | _ => exact absurd h Bool.false_ne_true

theorem tickHeld_eq_true (s : State) : tickHeld s = true ↔ timeOver s = false ∧ internalPending s = true := by
  simp [tickHeld]

theorem execWrLockUnlock_of_held {s : State} (data : Word) (h : unlockHeld s = true) :
    execWrLockUnlock data s = .next (s.holdBus (.wrLockUnlock data)) := if_pos h

theorem execSeqAdvance_of_held {s : State} (h : seqAdvanceHeld s = true) :
    execSeqAdvance s = .next s.holdSeqAdvance := if_pos h

theorem execEval_of_held {s : State} (h : evalHeld s = true) : execEval s = .next s.holdEval := if_pos h

theorem execTick_of_held {s : State} (h : tickHeld s = true) : execTick s = .next s.holdTick := by
  obtain ⟨htime, hpending⟩ := (tickHeld_eq_true s).mp h
  simp [execTick, htime, hpending]

/-- Settles O5: each of the four meanings that can be held answers its own hold operation, which writes `waiting` only. -/
theorem heldStimulusOnlyWaits : Obligations.HeldStimulusOnlyWaits := by
  intro i s h
  obtain ⟨data, rfl, hheld⟩ | ⟨rfl, hheld⟩ | ⟨rfl, hheld⟩ | ⟨rfl, hheld⟩ := heldNow_cases h
  · exact execWrLockUnlock_of_held data hheld
  · exact execSeqAdvance_of_held hheld
  · exact execEval_of_held hheld
  · exact execTick_of_held hheld

end Sys2Proof.Machine
end

section
/-! What a stimulus can do: the inversion of `exec` (R77), said once. O7: every step answers a next state. -/

namespace Sys2Proof.Machine

/-- `Effect s i t`: `t` is one of the states that stimulus `i` can give from `s`, with the guard under which it does. -/
inductive Effect (s : State) : Instr → State → Prop where
  /-- R56: a bus read returns a value -/
  | read {i : Instr} (v : Word) : isBusAccess i = true → Effect s i (s.busReturn v)
  /-- R107, R198: a write without effect -/
  | ignored {i : Instr} : isBusAccess i = true → Effect s i s
  /-- R212: a held stimulus waits, a host access on the bus -/
  | waits {i : Instr} (w : Waiting) : heldNow i s = true →
      (∀ j ∈ w.bus, j ∈ s.waiting.bus ∨ j = i ∧ isBusAccess i = true) → Effect s i { s with waiting := w }
  /-- R102, R103 -/
  | edge (c : Dir) (b : Bool) : Effect s (bitEdge c b) (s.append c b)
  /-- R106 -/
  | channelReset (c : Dir) (data : Word) : Effect s (.wrChReset c data) (s.emptyChannel c)
  /-- R196 -/
  | flagClear (data : Word) : Effect s (.wrEvtFlags data) (s.clearFlags data)
  /-- R146, with the interlock satisfied -/
  | unlockStarts (data : Word) : s.seq.phase = .idle → (s.lk.get (opp (lockCmdDir data))).isOpen = false →
      Effect s (.wrLockUnlock data) (s.startSeq .unlockPermit (lockCmdDir data))
  /-- R146, rejected by the interlock -/
  | unlockRejected (data : Word) : s.seq.phase = .idle → (s.lk.get (opp (lockCmdDir data))).isOpen = true →
      Effect s (.wrLockUnlock data) { s with evtRJ := s.evtRJ.set (lockCmdDir data) true }
  /-- R147 -/
  | badCommand (data : Word) : Effect s (.wrLockCmdRsvd data) { s with evtBad := true }
  /-- R141 -/
  | doorEdge : Effect s .pinDoorEdge { s with door := !s.door, doorTrig := true }
  /-- R190, from 2^63 on -/
  | tickRefused : Effect s .tick (s.raiseRefused (.timeOverflow s.now))
  /-- R190 -/
  | tickAdvances : s.now.toNat < 2 ^ 63 → internalPending s = false → Effect s .tick { s with now := s.now + 1#64 }
  /-- R240 -/
  | reset : Effect s .reset s.blockReset
  /-- R162 -/
  | evalRuns : evalHeld s = false → Effect s .eval s.evaluate
  /-- R151 -/
  | seqAdvances : s.seq.phase ≠ .idle → s.seq.endAt.toNat ≤ s.now.toNat → Effect s .seqAdvance s.advanceSeq

theorem interlockOk_eq (s : State) (d : Dir) : interlockOk s d = !(s.lk.get (opp d)).isOpen := rfl

/-- A held stimulus waits. -/
theorem exec_effect_of_held {i : Instr} {s : State} (h : heldNow i s = true) :
    ∃ t, exec i s = .next t ∧ Effect s i t := by
  refine ⟨_, heldStimulusOnlyWaits i s h, .waits _ h fun j hj => ?_⟩
  by_cases hb : isBusAccess i = true
  · simpa [hb] using hj
  · exact .inl (by simpa [hb] using hj)

/-- Every stimulus answers a next state, and does one of the things listed. -/
theorem exec_effect (i : Instr) (s : State) : ∃ t, exec i s = .next t ∧ Effect s i t := by
  by_cases hheld : heldNow i s = true
  · exact exec_effect_of_held hheld
  cases i with
  | rdChStatus | rdChCount | rdChBufLo | rdChBufHi | rdChDlLo | rdChDlHi | rdChDecode | rdEvtFlags | rdLockStatus
  | rdCloseDlLo | rdCloseDlHi | rdLastRelockLo | rdLastRelockHi | rdNowLo | rdNowHi | rdReserved =>
    exact ⟨_, rfl, .read _ rfl⟩
  | wrChCtrlNop | wrIgnored => exact ⟨_, rfl, .ignored rfl⟩
  | wrChReset c data => exact ⟨_, rfl, .channelReset c data⟩
  | wrEvtFlags data => exact ⟨_, rfl, .flagClear data⟩
  | wrLockCmdRsvd data => exact ⟨_, rfl, .badCommand data⟩
  | pinD0Fall c => exact ⟨_, rfl, .edge c false⟩
  | pinD1Fall c => exact ⟨_, rfl, .edge c true⟩
  | pinDoorEdge => exact ⟨_, rfl, .doorEdge⟩
  | reset => exact ⟨_, rfl, .reset⟩
  | wrLockUnlock data =>
    obtain ⟨h, -⟩ | ⟨h, hlock, e⟩ | ⟨h, hlock, e⟩ := execWrLockUnlock_cases data s
    · exact absurd h hheld
    · exact ⟨_, e, .unlockStarts data ((unlockHeld_eq_false s).mp h) (by simpa [interlockOk_eq] using hlock)⟩
    · exact ⟨_, e, .unlockRejected data ((unlockHeld_eq_false s).mp h) (by simpa [interlockOk_eq] using hlock)⟩
  | tick =>
    obtain ⟨-, e⟩ | ⟨htime, hpending, -⟩ | ⟨htime, hpending, e⟩ := execTick_cases s
    · exact ⟨_, e, .tickRefused⟩
    · exact absurd ((tickHeld_eq_true s).mpr ⟨htime, hpending⟩) hheld
    · exact ⟨_, e, .tickAdvances ((timeOver_eq_false s).mp htime) hpending⟩
  | eval =>
    obtain ⟨h, -⟩ | ⟨h, e⟩ := execEval_cases s
    · exact absurd h hheld
    · exact ⟨_, e, .evalRuns h⟩
  | seqAdvance =>
    obtain ⟨h, -⟩ | ⟨h, e⟩ := execSeqAdvance_cases s
    · exact absurd h hheld
    · obtain ⟨hbusy, hend⟩ := (seqAdvanceHeld_eq_false s).mp h
      exact ⟨_, e, .seqAdvances hbusy hend⟩

/-- The inversion of `exec`: whatever a stimulus answers is one of its effects. -/
theorem effect_of_exec {i : Instr} {s t : State} (h : exec i s = .next t) : Effect s i t := by
  obtain ⟨u, hu, heffect⟩ := exec_effect i s
  cases hu.symm.trans h
  exact heffect

/-- `u` is `s` with other turns to come and with no new host access on the bus: a turn has been taken and nothing done. -/
structure TurnTaken (s u : State) : Prop where
  frame : u = { s with schedule := u.schedule, waiting := u.waiting }
  bus_subset : ∀ j ∈ u.waiting.bus, j ∈ s.waiting.bus

theorem TurnTaken.schedule (s : State) (rest : List Turn) : TurnTaken s { s with schedule := rest } :=
  ⟨rfl, fun _ h => h⟩

theorem TurnTaken.waiting {s u : State} (h : TurnTaken s u) (w : Waiting) (hw : ∀ j ∈ w.bus, j ∈ u.waiting.bus) :
    TurnTaken s { u with waiting := w } :=
  ⟨by rw [h.frame], fun j hj => h.bus_subset j (hw j hj)⟩

/-- `StepEffect s t`: `t` is one of the states a step can give from `s`. -/
inductive StepEffect (s : State) : State → Prop where
  /-- R212, R192: nothing happens -/
  | nothing {u : State} : TurnTaken s u → StepEffect s u
  /-- R55: a stimulus takes its step -/
  | runs {u t : State} {i : Instr} : TurnTaken s u → i.wf = true ∨ i ∈ s.waiting.bus → exec i u = .next t → StepEffect s t
  /-- R247: a host access waits behind a stalled one -/
  | queues {u : State} {i : Instr} : TurnTaken s u → isBusAccess i = true → i.wf = true → StepEffect s (u.holdBus i)
  /-- R76: an ILLEGAL word is refused -/
  | refuses {u : State} (x : StimWord) : TurnTaken s u → StepEffect s (u.raiseRefused (.illegalStimulus x))

/-! ### A decoded stimulus is well formed (R77) -/

theorem decodeRead_wf (w : WordIdx) : (decodeRead w).wf = true := by
  revert w
  decide

theorem decodeWrite_wf (w : WordIdx) (data : Word) : (decodeWrite w data).wf = true := by
  unfold decodeWrite
  split
  · split <;> simp_all [Instr.wf]
  · split <;> simp_all [Instr.wf]
  · rfl
  · split <;> simp_all [Instr.wf]
  · simp_all [Instr.wf, writeIgnored]

theorem decodePin_wf {a : BitVec 8} {i : Instr} (h : decodePin a = .ok i) : i.wf = true := by
  unfold decodePin at h
  split at h <;> cases h <;> rfl

theorem decodeInternal_wf {a : BitVec 8} {i : Instr} (h : decodeInternal a = .ok i) : i.wf = true := by
  unfold decodeInternal at h
  split at h <;> cases h <;> rfl

/-- What a check lets through is what follows it. -/
theorem ok_of_guard {p : Prop} [Decidable p] {e : Illegal} {r : Except Illegal Instr} {i : Instr}
    (h : (if p then .error e else r) = .ok i) : r = .ok i := by
  split at h
  · cases h
  · exact h

theorem decode_wf {x : StimWord} {i : Instr} (h : decode x = .ok i) : i.wf = true := by
  unfold decode decodeFields at h
  replace h := ok_of_guard h
  split at h
  · cases ok_of_guard (ok_of_guard h)
    exact decodeRead_wf _
  · cases ok_of_guard h
    exact decodeWrite_wf _ _
  · exact decodePin_wf (ok_of_guard h)
  · cases ok_of_guard (ok_of_guard h)
    rfl
  · cases ok_of_guard (ok_of_guard h)
    rfl
  · exact decodeInternal_wf (ok_of_guard h)
  · cases h

/-! ### Steps -/

theorem present_effect {s u : State} {i : Instr} (hu : TurnTaken s u) (hwf : i.wf = true) :
    ∃ t, present i u = .next t ∧ StepEffect s t := by
  unfold present
  by_cases hstalled : (isBusAccess i && busStalled u) = true
  · rw [if_pos hstalled]
    exact ⟨_, rfl, .queues hu (Bool.and_eq_true_iff.mp hstalled).1 hwf⟩
  · rw [if_neg hstalled]
    obtain ⟨t, ht, -⟩ := exec_effect i u
    exact ⟨t, ht, .runs hu (.inl hwf) ht⟩

theorem retry_effect {s u : State} (k : HeldKind) (hu : TurnTaken s u) : ∃ t, retry k u = .next t ∧ StepEffect s t := by
  have run (i : Instr) (w : Waiting) (hw : ∀ j ∈ w.bus, j ∈ u.waiting.bus) (hi : i.wf = true ∨ i ∈ u.waiting.bus) :
      ∃ t, exec i { u with waiting := w } = .next t ∧ StepEffect s t := by
    obtain ⟨t, ht, -⟩ := exec_effect i { u with waiting := w }
    exact ⟨t, ht, .runs (hu.waiting w hw) (hi.imp_right (hu.bus_subset i)) ht⟩
  obtain e | ⟨-, i, rest, hbus, -, e⟩ | ⟨-, n, -, -, e⟩ | ⟨-, n, -, -, e⟩ | ⟨-, n, -, -, e⟩ := retry_cases k u <;> rw [e]
  · exact ⟨u, rfl, .nothing hu⟩
  · exact run i _ (fun j hj => by simp [hbus, hj]) (.inr (by simp [hbus]))
  · exact run .tick _ (fun _ hj => hj) (.inl rfl)
  · exact run .eval _ (fun _ hj => hj) (.inl rfl)
  · exact run .seqAdvance _ (fun _ hj => hj) (.inl rfl)

/-- Every step answers a next state, and does one of the things listed. -/
theorem step_effect (s : State) : ∃ t, step s = .next t ∧ StepEffect s t := by
  obtain ⟨-, e⟩ | ⟨x, rest, i, -, hd, e⟩ | ⟨x, rest, -, -, -, e⟩ | ⟨k, rest, -, e⟩ := step_cases s <;> rw [e]
  · exact ⟨s, rfl, .nothing (.schedule s s.schedule)⟩
  · exact present_effect (.schedule s rest) (decode_wf hd)
  · exact ⟨_, rfl, .refuses x (.schedule s rest)⟩
  · exact retry_effect k (.schedule s rest)

/-- The inversion of `step`. -/
theorem stepEffect_of_step {s t : State} (h : step s = .next t) : StepEffect s t := by
  obtain ⟨u, hu, heffect⟩ := step_effect s
  cases hu.symm.trans h
  exact heffect

/-- Settles O7: each turn of the schedule, and a schedule without one, answers a next state. -/
theorem everyStepAnswersANextState : Obligations.EveryStepAnswersANextState := by
  intro s
  obtain ⟨t, ht, -⟩ := step_effect s
  exact ⟨t, ht⟩

end Sys2Proof.Machine
end

section
/-! O53, O55: the invariant of the block, operation by operation, then for every stimulus, every step and every run. -/

namespace Sys2Proof.Machine

/-! ### The invariant through accessors, and states it does not tell apart -/

theorem driveTime_le {g : Config} (h : badParams g = []) (k : Kind) : driveTime g k ≤ maxDuration := by
  cases k
  · exact (durationOf_in_range h .tDriveOpen).2
  · exact (durationOf_in_range h .tDriveOpen).2
  · exact (durationOf_in_range h .tDriveClose).2

theorem holdTime_le {g : Config} (h : badParams g = []) (k : Kind) : holdTime g k ≤ maxDuration := by
  cases k
  · exact (durationOf_in_range h .tHoldOpen).2
  · exact (durationOf_in_range h .tHoldOpen).2
  · exact (durationOf_in_range h .tHoldClose).2

theorem BlockInv.capture {s : State} (h : BlockInv s) (c : Dir) : CaptureInv s.cfg s.now (s.ch.get c) := by
  cases c
  · exact h.capture_entry
  · exact h.capture_exit

theorem BlockInv.lock {s : State} (h : BlockInv s) (d : Dir) : LockInv s.now (s.lk.get d) := by
  cases d
  · exact h.lock_entry
  · exact h.lock_exit

/-- A deadline set now is one duration away. -/
theorem BlockInv.after_toNat {s : State} (h : BlockInv s) {n : Nat} (hn : n ≤ maxDuration) :
    (s.after n).toNat = s.now.toNat + n :=
  add_duration_toNat h.time_bound hn

theorem BlockInv.after_le {s : State} (h : BlockInv s) {n : Nat} (hn : n ≤ maxDuration) :
    (s.after n).toNat ≤ s.now.toNat + maxDuration := by
  rw [h.after_toNat hn]
  exact Nat.add_le_add_left hn _

/-- Mutual exclusion, from either side. -/
theorem doorsExclusive_iff (s : State) :
    DoorsExclusive s ↔ ∀ d, (s.lk.get d).isOpen = true → (s.lk.get (opp d)).isOpen = false := by
  constructor
  · rintro h (_ | _) hopen
    · exact Bool.eq_false_iff.mpr fun hx => h ⟨hopen, hx⟩
    · exact Bool.eq_false_iff.mpr fun he => h ⟨he, hopen⟩
  · rintro h ⟨he, hx⟩
    exact absurd hx (Bool.eq_false_iff.mp (h .entry he))

/-- The sequencer's invariant reads the sequencer, the time, the parameters and which locks are open. -/
theorem SeqInv.congr {s t : State} (h : SeqInv s) (hseq : t.seq = s.seq) (hnow : t.now = s.now) (hcfg : t.cfg = s.cfg)
    (hopen : ∀ d, (t.lk.get d).isOpen = (s.lk.get d).isOpen) : SeqInv t := by
  constructor <;> simp only [hseq, hnow, hcfg, hopen]
  exacts [h.idle_end_zero, h.busy_not_past_end, h.end_bound, h.hold_has_time, h.unlock_interlocked, h.relock_of_open,
    h.lockedOpen_of_locked]

/-- The invariant does not read the door, the flags, the returned value, the turns to come, or what waits off the bus. -/
theorem BlockInv.of_unread_fields {s t : State} (h : BlockInv s)
    (frame : t = { s with
      door := t.door, doorTrig := t.doorTrig, evtBad := t.evtBad, evtLO := t.evtLO, evtRL := t.evtRL, evtRJ := t.evtRJ
      busOut := t.busOut, schedule := t.schedule, waiting := t.waiting })
    (hbus : ∀ i ∈ t.waiting.bus, isBusAccess i = true ∧ i.wf = true) : BlockInv t := by
  have hseq : SeqInv t := by
    refine h.sequencer.congr ?_ ?_ ?_ fun d => ?_ <;> rw [frame]
  rw [frame] at hseq ⊢
  exact { h with sequencer := hseq, bus_accesses_wait := hbus }

/-! ### Capture (R101, R106) -/

theorem CaptureInv.empty (g : Config) (now : Time) : CaptureInv g now Capture.empty where
  deadline_iff_bits := by decide
  buffer_fits := by decide
  no_deadline_reads_zero := by decide
  deadline_range := by simp [Capture.empty]

/-- A channel may take any contents that have the channel's invariant. -/
theorem BlockInv.setCh {s : State} (h : BlockInv s) {c : Dir} {x : Capture} (hx : CaptureInv s.cfg s.now x) :
    BlockInv (s.setCh c x) where
  __ := h
  capture_entry := by
    cases c
    · exact hx
    · exact h.capture_entry
  capture_exit := by
    cases c
    · exact h.capture_exit
    · exact hx
  sequencer := h.sequencer.congr rfl rfl rfl fun _ => rfl

/-- A count after an append: one more, up to 255. -/
theorem appended_count_toNat (n : BitCount) :
    (if n = 255#8 then 255#8 else n + 1#8).toNat = min 255 (n.toNat + 1) := by
  by_cases h : n = 255#8
  · simp [h]
  · have hne : n.toNat ≠ 255 := fun e => h (BitVec.eq_of_toNat_eq e)
    have hlt := n.isLt
    rw [if_neg h, BitVec.toNat_add, BitVec.toNat_ofNat]
    omega

theorem append_cnt_toNat (s : State) (c : Dir) (b : Bool) :
    ((s.append c b).ch.get c).cnt.toNat = min 255 ((s.ch.get c).cnt.toNat + 1) := by
  simp only [append_eq, perDir_get_set_same]
  exact appended_count_toNat _

@[simp] theorem append_dlv (s : State) (c : Dir) (b : Bool) : ((s.append c b).ch.get c).dlv = true := by
  simp [append_eq]

@[simp] theorem append_dl (s : State) (c : Dir) (b : Bool) : ((s.append c b).ch.get c).dl = s.after s.cfg.tBit := by
  simp [append_eq, State.after]

/-- One bit more doubles the bound on the buffer. -/
theorem append_buffer_fits {s : State} {c : Dir} (b : Bool)
    (h : (s.ch.get c).cnt.toNat ≤ 63 → (s.ch.get c).buf.toNat < 2 ^ (s.ch.get c).cnt.toNat)
    (hcnt : ((s.append c b).ch.get c).cnt.toNat ≤ 63) :
    ((s.append c b).ch.get c).buf.toNat < 2 ^ ((s.append c b).ch.get c).cnt.toNat := by
  have hb := Bool.toNat_le b
  rw [append_cnt_toNat] at hcnt ⊢
  rw [append_buf_toNat, show min 255 ((s.ch.get c).cnt.toNat + 1) = (s.ch.get c).cnt.toNat + 1 by omega, Nat.pow_succ]
  have hbuf := h (by omega)
  have hmod := Nat.mod_le (s.ch.get c).buf.toNat (2 ^ 63)
  omega

theorem BlockInv.append_capture {s : State} (h : BlockInv s) (c : Dir) (b : Bool) :
    CaptureInv s.cfg s.now ((s.append c b).ch.get c) where
  deadline_iff_bits := by
    have hne : ((s.append c b).ch.get c).cnt ≠ 0#8 := fun e => by
      have := append_cnt_toNat s c b
      rw [e, BitVec.toNat_ofNat] at this
      omega
    simp [hne]
  buffer_fits := append_buffer_fits b (h.capture c).buffer_fits
  no_deadline_reads_zero := by simp
  deadline_range _ := by
    have hle : s.cfg.tBit ≤ maxDuration := (durationOf_in_range h.config_in_range .tBit).2
    rw [append_dl, h.after_toNat hle]
    exact ⟨Nat.le_add_left .., le_rfl⟩

/-- An append writes the channel. -/
theorem append_eq_setCh (s : State) (c : Dir) (b : Bool) : s.append c b = s.setCh c ((s.append c b).ch.get c) := by
  simp [State.append]

theorem BlockInv.append {s : State} (h : BlockInv s) (c : Dir) (b : Bool) : BlockInv (s.append c b) := by
  rw [append_eq_setCh]
  exact h.setCh (h.append_capture c b)

/-! ### The sequencer (R150 to R156) -/

/-- The sequencer may take any contents that have the sequencer's invariant. -/
theorem BlockInv.setSeq {s : State} (h : BlockInv s) {q : Sequencer} (hq : SeqInv (s.setSeq q)) : BlockInv (s.setSeq q) :=
  { h with sequencer := hq }

/-- A sequence may start when its kind's premise on the locks holds. -/
theorem BlockInv.startSeq {s : State} (h : BlockInv s) {k : Kind} {d : Dir}
    (unlock_interlocked : k ≠ .relock → (s.lk.get (opp d)).isOpen = false)
    (relock_of_open : k = .relock → (s.lk.get d).isOpen = true)
    (lockedOpen_of_locked : k = .unlockLockedOpen → (s.lk.get d).isOpen = false) : BlockInv (s.startSeq k d) := by
  have hend : (s.after (driveTime s.cfg k)).toNat = s.now.toNat + driveTime s.cfg k :=
    h.after_toNat (driveTime_le h.config_in_range k)
  have hle := driveTime_le h.config_in_range k
  exact h.setSeq
    { idle_end_zero := nofun
      busy_not_past_end := fun _ => by simp only [setSeq_now, setSeq_seq, hend]; omega
      end_bound := by simp only [setSeq_now, setSeq_seq, hend]; omega
      hold_has_time := nofun
      unlock_interlocked := fun _ => unlock_interlocked
      relock_of_open := fun _ => relock_of_open
      lockedOpen_of_locked := fun _ => lockedOpen_of_locked }

/-- The drive phase of a kind with a hold time may be followed by its hold phase. -/
theorem BlockInv.holdPhase {s : State} (h : BlockInv s) (hdrive : s.seq.phase = .drive)
    (hhold : 0 < holdTime s.cfg s.seq.kind) :
    BlockInv (s.setSeq { s.seq with phase := .hold, endAt := s.after (holdTime s.cfg s.seq.kind) }) := by
  have hend : (s.after (holdTime s.cfg s.seq.kind)).toNat = s.now.toNat + holdTime s.cfg s.seq.kind :=
    h.after_toNat (holdTime_le h.config_in_range s.seq.kind)
  have hle := holdTime_le h.config_in_range s.seq.kind
  have hbusy : s.seq.phase ≠ .idle := by simp [hdrive]
  exact h.setSeq
    { idle_end_zero := nofun
      busy_not_past_end := fun _ => by simp only [setSeq_now, setSeq_seq, hend]; omega
      end_bound := by simp only [setSeq_now, setSeq_seq, hend]; omega
      hold_has_time := fun _ => hhold
      unlock_interlocked := fun _ => h.sequencer.unlock_interlocked hbusy
      relock_of_open := fun _ => h.sequencer.relock_of_open hbusy
      lockedOpen_of_locked := fun _ => h.sequencer.lockedOpen_of_locked hbusy }

/-- An IDLE sequencer has its invariant whatever the locks are. -/
theorem SeqInv.of_idle {s : State} (hphase : s.seq.phase = .idle) (hend : s.seq.endAt = 0#64) : SeqInv s where
  idle_end_zero _ := hend
  busy_not_past_end hbusy := absurd hphase hbusy
  end_bound := by simp [hend]
  hold_has_time hhold := by simp [hphase] at hhold
  unlock_interlocked hbusy := absurd hphase hbusy
  relock_of_open hbusy := absurd hphase hbusy
  lockedOpen_of_locked hbusy := absurd hphase hbusy

/-- An open lock, `Unlocked` or `LockedOpen`, with a close deadline one duration away. -/
theorem BlockInv.opened_lock {s : State} (h : BlockInv s) (d : Dir) (lo : Bool) {n : Nat} (hn : n ≤ maxDuration) :
    LockInv s.now { s.lk.get d with isOpen := true, lo := lo, cdv := true, cd := s.after n } where
  lockedOpen_is_open _ := rfl
  open_iff_deadline := rfl
  no_deadline_reads_zero := nofun
  no_relock_reads_zero := (h.lock d).no_relock_reads_zero
  relock_in_past := (h.lock d).relock_in_past
  deadline_bound := h.after_le hn

/-- A `Locked` lock after a re-lock: the time is recorded, or stays as it was after `LockedOpen` (R156). -/
theorem BlockInv.relocked_lock {s : State} (h : BlockInv s) (d : Dir) :
    LockInv s.now
      { isOpen := false, lo := false, cdv := false, cd := 0#64
        luv := if (s.lk.get d).lo then (s.lk.get d).luv else true
        lu := if (s.lk.get d).lo then (s.lk.get d).lu else s.now } where
  lockedOpen_is_open := nofun
  open_iff_deadline := rfl
  no_deadline_reads_zero _ := rfl
  no_relock_reads_zero := by
    split
    · exact (h.lock d).no_relock_reads_zero
    · nofun
  relock_in_past := by
    split
    · exact (h.lock d).relock_in_past
    · exact le_rfl
  deadline_bound := Nat.zero_le _

/-- The lock that a commit leaves has the lock invariant. -/
theorem BlockInv.commit_lock {s : State} (h : BlockInv s) (k : Kind) (d : Dir) :
    LockInv s.now ((s.commit k d).lk.get d) := by
  obtain ⟨-, e⟩ | ⟨-, e⟩ | ⟨-, e⟩ := commit_cases s k d <;> rw [e] <;> simp only [perDir_get_set_same]
  · exact h.opened_lock d false (durationOf_in_range h.config_in_range .doorTimeout).2
  · exact h.opened_lock d true (durationOf_in_range h.config_in_range .lockedOpenTimeout).2
  · exact h.relocked_lock d

/-- A commit opens the lock of its direction, or closes it: RELOCK. -/
theorem commit_isOpen (s : State) (k : Kind) (d : Dir) :
    ((s.commit k d).lk.get d).isOpen = true ↔ k ≠ .relock := by
  obtain ⟨rfl, e⟩ | ⟨rfl, e⟩ | ⟨rfl, e⟩ := commit_cases s k d <;> rw [e] <;> simp

/-- The iteration end puts EVAL off by one duration at most. -/
theorem BlockInv.iterationEnd {s : State} (h : BlockInv s) : BlockInv s.iterationEnd := by
  obtain ⟨-, e⟩ | ⟨-, -, e⟩ := iterationEnd_cases s <;> rw [e]
  · exact { h with
      sequencer := h.sequencer.congr rfl rfl rfl fun _ => rfl
      hold_bound := h.after_le (durationOf_in_range h.config_in_range .pollDelay).2 }
  · exact h

/-- A property of the committed direction and of the opposite one holds of both. -/
theorem forall_dir_of_opp {p : Dir → Prop} (d : Dir) (h : p d) (hopp : p (opp d)) : ∀ e, p e := by
  rintro (_ | _) <;> cases d <;> assumption

/-- The commit of a running sequence keeps mutual exclusion: an unlock kind runs on an interlocked direction (R169). -/
theorem BlockInv.commit_exclusive {s : State} (h : BlockInv s) (hbusy : s.seq.phase ≠ .idle) :
    DoorsExclusive (s.commit s.seq.kind s.seq.dir) := by
  rw [doorsExclusive_iff]
  refine forall_dir_of_opp s.seq.dir (fun hopen => ?_) fun hopen => ?_
  · rw [commit_lk_opp]
    exact h.sequencer.unlock_interlocked hbusy ((commit_isOpen ..).mp hopen)
  · rw [commit_lk_opp] at hopen
    rw [opp_opp, ← Bool.not_eq_true, commit_isOpen]
    intro hkind
    rw [h.sequencer.unlock_interlocked hbusy hkind] at hopen
    cases hopen

/-- The commit of a running sequence, and IDLE after it. -/
theorem BlockInv.commit_idle {s : State} (h : BlockInv s) (hbusy : s.seq.phase ≠ .idle) :
    BlockInv ((s.commit s.seq.kind s.seq.dir).setSeq { s.seq with phase := .idle, endAt := 0#64 }) := by
  have hlock : ∀ d, LockInv s.now ((s.commit s.seq.kind s.seq.dir).lk.get d) :=
    forall_dir_of_opp s.seq.dir (h.commit_lock ..) (by simpa using h.lock (opp s.seq.dir))
  constructor <;> simp only [setSeq_cfg, setSeq_now, setSeq_ch, setSeq_lk, setSeq_evalHold, setSeq_refused, setSeq_refusals,
    setSeq_waiting, commit_cfg, commit_now, commit_ch, commit_evalHold, commit_refused, commit_refusals, commit_waiting]
  · exact h.config_in_range
  · exact h.time_bound
  · exact h.capture_entry
  · exact h.capture_exit
  · exact hlock .entry
  · exact hlock .exit
  · exact .of_idle rfl rfl
  · exact h.commit_exclusive hbusy
  · exact h.hold_bound
  · exact h.refused_iff_recorded
  · exact h.bus_accesses_wait

theorem BlockInv.advanceSeq {s : State} (h : BlockInv s) (hbusy : s.seq.phase ≠ .idle) : BlockInv s.advanceSeq := by
  obtain ⟨hdrive, hhold, e⟩ | ⟨-, e⟩ := advanceSeq_cases s <;> rw [e]
  · exact h.holdPhase hdrive hhold
  · exact (h.commit_idle hbusy).iterationEnd

/-! ### The evaluation (R157 to R163) -/

theorem LockInv.swing {now t : Time} {l : Lock} (h : LockInv now l) (ht : t.toNat ≤ now.toNat + maxDuration) :
    LockInv now (swingLock t l) := by
  obtain ⟨hopen, -, -, e⟩ | ⟨-, e⟩ := swingLock_cases t l <;> rw [e]
  · exact { h with
      no_deadline_reads_zero := fun hcdv => by simp [← h.open_iff_deadline, hopen] at hcdv
      deadline_bound := ht }
  · exact h

/-- Swing opens and closes no lock. -/
theorem swing_isOpen (s : State) (d : Dir) : (s.swing.lk.get d).isOpen = (s.lk.get d).isOpen := by
  rw [swing_lk_get]
  split <;> simp

theorem BlockInv.swing {s : State} (h : BlockInv s) : BlockInv s.swing := by
  have hseq : SeqInv s.swing := h.sequencer.congr (by simp) (by simp) (by simp) (swing_isOpen s)
  have hswing : (s.after s.cfg.doorSwingTimeout).toNat ≤ s.now.toNat + maxDuration :=
    h.after_le (durationOf_in_range h.config_in_range .doorSwingTimeout).2
  obtain ⟨-, e⟩ | ⟨-, e⟩ := swing_cases s
  · rwa [e]
  · rw [e] at hseq ⊢
    exact { h with
      lock_entry := h.lock_entry.swing hswing
      lock_exit := h.lock_exit.swing hswing
      sequencer := hseq
      exclusive := by simpa [DoorsExclusive] using h.exclusive }

/-- Locked-open detection is of a direction that is not open, with the interlock satisfied (R159). -/
theorem lockedOpenCand_locks {s : State} {smp : Bool} {d : Dir} (h : lockedOpenCand s smp d = true) :
    (s.lk.get d).isOpen = false ∧ (s.lk.get (opp d)).isOpen = false := by
  simp only [lockedOpenCand, interlockOk_eq, Bool.and_eq_true, Bool.not_eq_true'] at h
  exact ⟨h.1.1.1.1, h.2⟩

/-- A re-lock is of an open direction (R160). -/
theorem relockCand_lock {s : State} {smp : Bool} {d : Dir} (h : relockCand s smp d = true) :
    (s.lk.get d).isOpen = true := by
  simp only [relockCand, Bool.and_eq_true] at h
  exact h.1.1

/-- What an evaluation chooses is a locked-open recovery or a re-lock, of a candidate. -/
theorem evalChoice_eq_some {s : State} {smp : Bool} {k : Kind} {d : Dir} (h : evalChoice s smp = some (k, d)) :
    (k = .unlockLockedOpen ∧ lockedOpenCand s smp d = true) ∨ (k = .relock ∧ relockCand s smp d = true) := by
  obtain ⟨hc, e⟩ | ⟨-, hc, e⟩ | ⟨-, -, hc, e⟩ | ⟨-, -, -, hc, e⟩ | ⟨-, -, -, -, e⟩ := evalChoice_cases s smp <;>
    cases e.symm.trans h
  · exact .inl ⟨rfl, hc⟩
  · exact .inl ⟨rfl, hc⟩
  · exact .inr ⟨rfl, hc⟩
  · exact .inr ⟨rfl, hc⟩

theorem BlockInv.evalAct {s : State} (h : BlockInv s) (smp : Bool) : BlockInv (s.evalAct smp) := by
  obtain ⟨k, d, hchoice, e⟩ | ⟨-, e⟩ := evalAct_cases s smp <;> rw [e]
  · obtain ⟨rfl, hcand⟩ | ⟨rfl, hcand⟩ := evalChoice_eq_some hchoice
    · obtain ⟨hlocked, hopp⟩ := lockedOpenCand_locks hcand
      exact h.startSeq (fun _ => hopp) nofun fun _ => hlocked
    · exact h.startSeq (absurd rfl) (fun _ => relockCand_lock hcand) nofun
  · exact h.iterationEnd

theorem BlockInv.evaluate {s : State} (h : BlockInv s) : BlockInv s.evaluate := h.swing.evalAct _

/-! ### The timebase, refusals and RESET -/

theorem CaptureInv.later {g : Config} {now later : Time} {x : Capture} (h : CaptureInv g now x)
    (hle : now.toNat ≤ later.toNat) : CaptureInv g later x where
  __ := h
  deadline_range hdlv := ⟨(h.deadline_range hdlv).1, by have := (h.deadline_range hdlv).2; omega⟩

theorem LockInv.later {now later : Time} {l : Lock} (h : LockInv now l) (hle : now.toNat ≤ later.toNat) :
    LockInv later l where
  __ := h
  relock_in_past := h.relock_in_past.trans hle
  deadline_bound := h.deadline_bound.trans (Nat.add_le_add_right hle _)

/-- While no internal step is pending, a running phase has not come to its end (R191). -/
theorem now_lt_end_of_quiet {s : State} (hquiet : internalPending s = false) (hbusy : s.seq.phase ≠ .idle) :
    s.now.toNat < s.seq.endAt.toNat := by
  by_contra hend
  have hheld := (seqAdvanceHeld_eq_false s).mpr ⟨hbusy, Nat.le_of_not_lt hend⟩
  simp [internalPending, hheld] at hquiet

/-- Time moves on by 1 ms, and does not wrap (R190). -/
theorem now_add_one_toNat {now : Time} (h : now.toNat < 2 ^ 63) : (now + 1#64).toNat = now.toNat + 1 := by
  rw [BitVec.toNat_add, BitVec.toNat_ofNat]
  omega

theorem BlockInv.tick {s : State} (h : BlockInv s) (htime : s.now.toNat < 2 ^ 63) (hquiet : internalPending s = false) :
    BlockInv { s with now := s.now + 1#64 } := by
  have hnow := now_add_one_toNat htime
  have hle : s.now.toNat ≤ (s.now + 1#64).toNat := by omega
  exact { h with
    time_bound := by simp only [hnow]; omega
    capture_entry := h.capture_entry.later hle
    capture_exit := h.capture_exit.later hle
    lock_entry := h.lock_entry.later hle
    lock_exit := h.lock_exit.later hle
    sequencer := { h.sequencer with
      busy_not_past_end := fun hbusy => by
        have := now_lt_end_of_quiet hquiet hbusy
        simp only [hnow]
        omega
      end_bound := h.sequencer.end_bound.trans (Nat.add_le_add_right hle _) }
    hold_bound := h.hold_bound.trans (Nat.add_le_add_right hle _) }

theorem BlockInv.raiseRefused {s : State} (h : BlockInv s) (r : RefusalRecord) : BlockInv (s.raiseRefused r) :=
  { h with
    sequencer := h.sequencer.congr rfl rfl rfl fun _ => rfl
    refused_iff_recorded := by simp }

theorem LockInv.initial (now : Time) : LockInv now Lock.initial := by
  constructor <;> simp [Lock.initial]

/-- A state with the fields of R36 has the invariant if the parameters, the refusals and the bus are as they should be. -/
theorem BlockInv.blockReset {s : State} (hcfg : badParams s.cfg = []) (hrefused : s.refused = true ↔ s.refusals ≠ [])
    (hbus : ∀ i ∈ s.waiting.bus, isBusAccess i = true ∧ i.wf = true) : BlockInv s.blockReset where
  config_in_range := hcfg
  time_bound := Nat.zero_le _
  capture_entry := .empty ..
  capture_exit := .empty ..
  lock_entry := .initial _
  lock_exit := .initial _
  sequencer := .of_idle rfl rfl
  exclusive := by simp [DoorsExclusive, State.blockReset, Lock.initial]
  hold_bound := Nat.zero_le _
  refused_iff_recorded := hrefused
  bus_accesses_wait := hbus

/-! ### Every stimulus, every step, every run -/

/-- A stimulus keeps the invariant, if it is well formed where it can come to wait on the bus. -/
theorem BlockInv.effect {s t : State} {i : Instr} (h : BlockInv s) (hwf : isBusAccess i = true → i.wf = true)
    (heffect : Effect s i t) : BlockInv t := by
  cases heffect with
  | ignored _ => exact h
  | waits w _ hw =>
    refine h.of_unread_fields rfl fun j hj => ?_
    obtain hold | ⟨rfl, hbus⟩ := hw j hj
    · exact h.bus_accesses_wait j hold
    · exact ⟨hbus, hwf hbus⟩
  | read | flagClear | unlockRejected | badCommand | doorEdge => exact h.of_unread_fields rfl h.bus_accesses_wait
  | edge c b => exact h.append c b
  | channelReset => exact h.setCh (.empty ..)
  | unlockStarts data _ hopp => exact h.startSeq (fun _ => hopp) nofun nofun
  | tickRefused => exact h.raiseRefused _
  | tickAdvances htime hquiet => exact h.tick htime hquiet
  | reset => exact .blockReset h.config_in_range h.refused_iff_recorded h.bus_accesses_wait
  | evalRuns => exact h.evaluate
  | seqAdvances hbusy => exact h.advanceSeq hbusy

theorem BlockInv.turnTaken {s u : State} (h : BlockInv s) (hu : TurnTaken s u) : BlockInv u :=
  h.of_unread_fields (by rw [hu.frame]) fun i hi => h.bus_accesses_wait i (hu.bus_subset i hi)

/-- Settles O53: a turn alone keeps the invariant, and so does the stimulus, the queueing or the refusal that follows. -/
theorem everyStepKeepsTheInvariant : Obligations.EveryStepKeepsTheInvariant := by
  intro s t h hstep
  cases stepEffect_of_step hstep with
  | nothing hu => exact h.turnTaken hu
  | runs hu hi hexec =>
    refine (h.turnTaken hu).effect (fun _ => ?_) (effect_of_exec hexec)
    exact hi.elim id fun hbus => (h.bus_accesses_wait _ hbus).2
  | queues hu hbus hwf =>
    refine (h.turnTaken hu).of_unread_fields rfl fun j hj => ?_
    obtain hold | rfl := List.mem_append.mp hj |>.imp_right List.mem_singleton.mp
    · exact (h.turnTaken hu).bus_accesses_wait j hold
    · exact ⟨hbus, hwf⟩
  | refuses x hu => exact (h.turnTaken hu).raiseRefused _

theorem blockInv_powerOn {g : Config} (door : Bool) (schedule : List Turn) (hg : badParams g = []) :
    BlockInv (State.powerOn g door schedule) := by
  rw [State.powerOn, hg]
  exact .blockReset (s := { State.reset with cfg := g, door := door, schedule := schedule }) hg (by simp [State.reset])
    (by simp [State.reset])

theorem BlockInv.run {s t : State} (n : Nat) (h : BlockInv s) (hrun : Host.Core.run Sys2Proof.core n s = .next t) :
    BlockInv t := by
  induction n generalizing s with
  | zero =>
    cases hrun
    exact h
  | succ n ih =>
    obtain ⟨u, hu⟩ := everyStepAnswersANextState s
    rw [run_succ n hu] at hrun
    exact ih (everyStepKeepsTheInvariant s u h hu) hrun

/-- Every reachable state has the invariant. -/
theorem Reachable.blockInv {s : State} (h : Reachable s) : BlockInv s := by
  obtain ⟨g, door, schedule, n, hg, hrun⟩ := h
  exact (blockInv_powerOn door schedule hg).run n hrun

/-- Settles O55: the clauses are those of the capture invariant, which every reachable state has. -/
theorem captureInvariantsOfReachableStates : Obligations.CaptureInvariantsOfReachableStates := by
  intro s c hs
  have hcapture := hs.blockInv.capture c
  exact ⟨hcapture.deadline_iff_bits, hcapture.buffer_fits, hcapture.no_deadline_reads_zero⟩

end Sys2Proof.Machine
end

section
/-! O21, O56, O57, O59, O60: what changes a channel's state, a lock's state, the time, the flags and the refused mark. -/

namespace Sys2Proof.Machine

/-! ### Time (R30) and the refused mark (R33) -/

/-- Settles O57: of all effects only those of TICK and RESET write `now`. -/
theorem onlyTickAndResetWriteNow : Obligations.OnlyTickAndResetWriteNow := by
  intro i s t h hne
  cases effect_of_exec h with
  | tickAdvances htime => exact .inl ⟨rfl, now_add_one_toNat htime⟩
  | reset => exact .inr ⟨rfl, rfl⟩
  | evalRuns => exact absurd (evaluate_now s) hne
  | seqAdvances => exact absurd (advanceSeq_now s) hne
  | _ => exact absurd rfl hne

/-- No stimulus clears the refused mark, and none writes the parameters. -/
theorem Effect.refused_cfg {s t : State} {i : Instr} (h : Effect s i t) :
    (s.refused = true → t.refused = true) ∧ t.cfg = s.cfg := by
  cases h with
  | tickRefused => exact ⟨fun _ => rfl, rfl⟩
  | evalRuns => simp
  | seqAdvances => simp
  | _ => exact ⟨id, rfl⟩

theorem TurnTaken.refused {s u : State} (h : TurnTaken s u) : u.refused = s.refused := by rw [h.frame]

theorem TurnTaken.cfg {s u : State} (h : TurnTaken s u) : u.cfg = s.cfg := by rw [h.frame]

/-- Settles O60: a stimulus keeps the mark and the parameters, and what else a turn does sets the mark or leaves it. -/
theorem refusedMarkIsSticky : Obligations.RefusedMarkIsSticky := by
  intro s t h
  cases stepEffect_of_step h with
  | nothing hu => exact ⟨hu.refused.trans, hu.cfg⟩
  | runs hu _ hexec =>
    obtain ⟨hrefused, hcfg⟩ := (effect_of_exec hexec).refused_cfg
    exact ⟨fun hs => hrefused (hu.refused.trans hs), hcfg.trans hu.cfg⟩
  | queues hu => exact ⟨hu.refused.trans, hu.cfg⟩
  | refuses x hu => exact ⟨fun _ => rfl, hu.cfg⟩

/-! ### The capture state machine (R14) -/

/-- The state of a channel reads the channel and the time. -/
theorem capturePhase_congr {s t : State} {c : Dir} (hch : t.ch.get c = s.ch.get c) (hnow : t.now = s.now) :
    capturePhase t c = capturePhase s c := by
  unfold capturePhase
  rw [hch, hnow]

theorem capturePhase_of_no_deadline {s : State} {c : Dir} (h : (s.ch.get c).dlv = false) : capturePhase s c = .empty := by
  simp [capturePhase, h]

theorem capturePhase_of_passed {s : State} {c : Dir} (h : (s.ch.get c).dlv = true)
    (hpassed : (s.ch.get c).dl.toNat < s.now.toNat) : capturePhase s c = .ready := by
  simp [capturePhase, h, BitVec.ult, hpassed]

theorem capturePhase_of_not_passed {s : State} {c : Dir} (h : (s.ch.get c).dlv = true)
    (hpassed : ¬(s.ch.get c).dl.toNat < s.now.toNat) : capturePhase s c = .receiving := by
  simp [capturePhase, h, BitVec.ult, hpassed]

/-- A channel that receives has a deadline. -/
theorem dlv_of_receiving {s : State} {c : Dir} (h : capturePhase s c = .receiving) : (s.ch.get c).dlv = true := by
  by_contra hdlv
  rw [capturePhase_of_no_deadline (Bool.eq_false_iff.mpr hdlv)] at h
  cases h

/-- A bit edge takes its channel to RECEIVING: the deadline it sets is not before `now`. -/
theorem capturePhase_append {s : State} (c : Dir) (b : Bool) (hcfg : badParams s.cfg = []) (htime : s.now.toNat ≤ 2 ^ 63) :
    capturePhase (s.append c b) c = .receiving := by
  refine capturePhase_of_not_passed (append_dlv s c b) ?_
  have hdl : (s.after s.cfg.tBit).toNat = s.now.toNat + s.cfg.tBit :=
    add_duration_toNat htime (durationOf_in_range hcfg .tBit).2
  rw [append_dl, append_now, hdl]
  omega

theorem capturePhase_emptyChannel (s : State) (c : Dir) : capturePhase (s.emptyChannel c) c = .empty :=
  capturePhase_of_no_deadline (by simp [Capture.empty])

theorem capturePhase_blockReset (s : State) (c : Dir) : capturePhase s.blockReset c = .empty := by
  cases c <;> rfl

/-- A TICK leaves the channels, whether it moves time, waits or is refused. -/
theorem ch_of_tick {s t : State} (h : exec .tick s = .next t) : t.ch = s.ch := by
  obtain ⟨-, e⟩ | ⟨-, -, e⟩ | ⟨-, -, e⟩ := execTick_cases s <;> cases e.symm.trans h <;> rfl

/-- When only time moves on, a channel changes its state only from RECEIVING to READY. -/
theorem capturePhase_later {s t : State} {c : Dir} (hch : t.ch.get c = s.ch.get c) (hle : s.now.toNat ≤ t.now.toNat)
    (hne : capturePhase t c ≠ capturePhase s c) : capturePhase s c = .receiving ∧ capturePhase t c = .ready := by
  cases hdlv : (s.ch.get c).dlv with
  | false =>
    rw [capturePhase_of_no_deadline hdlv, capturePhase_of_no_deadline (by rwa [hch])] at hne
    exact absurd rfl hne
  | true =>
    have hdlv' : (t.ch.get c).dlv = true := by rwa [hch]
    by_cases hlater : (t.ch.get c).dl.toNat < t.now.toNat
    · rw [capturePhase_of_passed hdlv' hlater] at hne ⊢
      by_cases hpassed : (s.ch.get c).dl.toNat < s.now.toNat
      · exact absurd (capturePhase_of_passed hdlv hpassed).symm hne
      · exact ⟨capturePhase_of_not_passed hdlv hpassed, rfl⟩
    · have hpassed : ¬(s.ch.get c).dl.toNat < s.now.toNat := by rw [hch] at hlater; omega
      rw [capturePhase_of_not_passed hdlv' hlater, capturePhase_of_not_passed hdlv hpassed] at hne
      exact absurd rfl hne

/-- A stimulus that changes a channel's state is one that R14 lists. -/
theorem capturePhase_changed_by {i : Instr} {s t : State} {c : Dir} (h : Effect s i t)
    (hne : capturePhase t c ≠ capturePhase s c) :
    i = .pinD0Fall c ∨ i = .pinD1Fall c ∨ (∃ data, i = .wrChReset c data) ∨ i = .reset ∨
      (i = .tick ∧ capturePhase s c = .receiving ∧ capturePhase t c = .ready) := by
  cases h with
  | edge e b =>
    obtain rfl : c = e := by
      by_contra hother
      exact hne (capturePhase_congr (by simp [append_eq, perDir_get_set_other _ hother]) rfl)
    cases b
    · exact .inl rfl
    · exact .inr (.inl rfl)
  | channelReset e data =>
    obtain rfl : c = e := by
      by_contra hother
      exact hne (capturePhase_congr (by simp [perDir_get_set_other _ hother]) rfl)
    exact .inr (.inr (.inl ⟨data, rfl⟩))
  | reset => exact .inr (.inr (.inr (.inl rfl)))
  | tickAdvances htime =>
    have hle : s.now.toNat ≤ (s.now + 1#64).toNat := by rw [now_add_one_toNat htime]; omega
    exact .inr (.inr (.inr (.inr ⟨rfl, capturePhase_later rfl hle hne⟩)))
  | evalRuns => exact absurd (capturePhase_congr (by simp) (by simp)) hne
  | seqAdvances => exact absurd (capturePhase_congr (by simp) (by simp)) hne
  | _ => exact absurd rfl hne

/-- Settles O21: the transitions of R14 one by one, and that there are no others. -/
theorem capturePhaseTransitions : Obligations.CapturePhaseTransitions := by
  intro i s t c hcfg htime h
  refine ⟨?_, ?_, ?_, capturePhase_changed_by (effect_of_exec h)⟩
  · rintro (rfl | rfl) <;> cases h
    · exact capturePhase_append c false hcfg htime
    · exact capturePhase_append c true hcfg htime
  · rintro (⟨data, rfl⟩ | rfl) <;> cases h
    · exact capturePhase_emptyChannel s c
    · exact capturePhase_blockReset s c
  · rintro rfl hreceiving hpassed
    rw [← ch_of_tick h] at hpassed
    exact capturePhase_of_passed (by rw [ch_of_tick h]; exact dlv_of_receiving hreceiving) hpassed

/-! ### The lock state (R15, R171) -/

/-- The lock state reads `open` and `lo`. -/
theorem lockMode_congr {l m : Lock} (hopen : m.isOpen = l.isOpen) (hlo : m.lo = l.lo) : lockMode m = lockMode l := by
  unfold lockMode
  rw [hopen, hlo]

theorem lockMode_locked {l : Lock} (hopen : l.isOpen = false) (hlo : l.lo = false) : lockMode l = some .locked := by
  simp [lockMode, hopen, hlo]

/-- A lock with the invariant that is not open is `Locked`. -/
theorem LockInv.locked {now : Time} {l : Lock} (h : LockInv now l) (hopen : l.isOpen = false) :
    lockMode l = some .locked :=
  lockMode_locked hopen (Bool.eq_false_iff.mpr fun hlo => by simp [h.lockedOpen_is_open hlo] at hopen)

/-- Swing changes no lock state. -/
theorem lockMode_swing (s : State) (d : Dir) : lockMode (s.swing.lk.get d) = lockMode (s.lk.get d) := by
  rw [swing_lk_get]
  split
  · exact lockMode_congr (swingLock_isOpen ..) (swingLock_lo ..)
  · rfl

/-- The lock state that the commit of a kind gives (R153). -/
def committedMode : Kind → LockMode
  | .unlockPermit => .unlocked
  | .unlockLockedOpen => .lockedOpen
  | .relock => .locked

theorem lockMode_commit (s : State) (k : Kind) (d : Dir) :
    lockMode ((s.commit k d).lk.get d) = some (committedMode k) := by
  obtain ⟨rfl, e⟩ | ⟨rfl, e⟩ | ⟨rfl, e⟩ := commit_cases s k d <;> rw [e] <;> simp [lockMode, committedMode]

/-- A sequencer step that changes a lock state has committed the sequence of that direction. -/
theorem lockMode_changed_by_advanceSeq {s : State} {d : Dir}
    (hne : lockMode (s.advanceSeq.lk.get d) ≠ lockMode (s.lk.get d)) :
    s.seq.dir = d ∧ s.advanceSeq.seq.phase = .idle ∧
      lockMode (s.advanceSeq.lk.get d) = some (committedMode s.seq.kind) := by
  obtain ⟨-, -, e⟩ | ⟨-, e⟩ := advanceSeq_cases s <;> rw [e] at hne ⊢
  · exact absurd rfl hne
  simp only [iterationEnd_lk, setSeq_lk, iterationEnd_seq, setSeq_seq, true_and] at hne ⊢
  obtain rfl | hother : s.seq.dir = d ∨ d = opp s.seq.dir := by
    cases d <;> cases s.seq.dir <;> simp [opp]
  · exact ⟨rfl, lockMode_commit ..⟩
  · subst hother
    exact absurd (by rw [commit_lk_opp]) hne

/-- Settles O56: only RESET and the commit write `open` and `lo`; a locked-open sequence runs on a `Locked` direction. -/
theorem lockStateChangesOnlyByCommitOrReset : Obligations.LockStateChangesOnlyByCommitOrReset := by
  intro i s t d hinv h hne
  cases effect_of_exec h with
  | reset => exact .inl ⟨rfl, by cases d <;> rfl⟩
  | evalRuns => exact absurd (by rw [evaluate_lk, lockMode_swing]) hne
  | seqAdvances hbusy hend =>
    obtain ⟨rfl, hidle, hmode⟩ := lockMode_changed_by_advanceSeq hne
    refine .inr ⟨rfl, hbusy, hend, rfl, hidle, ?_⟩
    rw [hmode]
    cases hkind : s.seq.kind with
    | unlockPermit => exact .inl ⟨rfl, rfl⟩
    | unlockLockedOpen =>
      have hopen := hinv.sequencer.lockedOpen_of_locked hbusy hkind
      exact .inr (.inl ⟨rfl, (hinv.lock s.seq.dir).locked hopen, rfl⟩)
    | relock => exact .inr (.inr ⟨rfl, rfl⟩)
  | _ => exact absurd rfl hne

/-! ### The stored flags (R27) -/

/-- A flag goes up only if `setBy` holds, and down only if `clearedBy` does: the two columns of R27. -/
structure FlagStep (setBy clearedBy : Prop) (old new : Bool) : Prop where
  up : new = true → old = false → setBy
  down : new = false → old = true → clearedBy

section
variable {P Q : Prop} {old : Bool}

theorem FlagStep.same : FlagStep P Q old old := by
  constructor <;> simp_all

theorem FlagStep.set (h : P) : FlagStep P Q old true := ⟨fun _ _ => h, nofun⟩

theorem FlagStep.clear (h : Q) : FlagStep P Q old false := ⟨nofun, fun _ _ => h⟩

/-- A W1C write. -/
theorem FlagStep.mask (h : Q) (keep : Bool) : FlagStep P Q old (old && keep) := by
  cases keep
  · rw [Bool.and_false]
    exact .clear h
  · rw [Bool.and_true]
    exact .same

/-- Setting the flag of one direction. -/
theorem FlagStep.setDir {p : PerDir Bool} {d e : Dir} (h : e = d → P) : FlagStep P Q (p.get d) ((p.set e true).get d) := by
  by_cases he : e = d
  · rw [he, perDir_get_set_same]
    exact .set (h he)
  · rw [perDir_get_set_other p (Ne.symm he)]
    exact .same

end

theorem clearFlags_evtLO (s : State) (data : Word) (d : Dir) :
    (s.clearFlags data).evtLO.get d = (s.evtLO.get d && !w1cLockedOpen data d) := by cases d <;> rfl

theorem clearFlags_evtRL (s : State) (data : Word) (d : Dir) :
    (s.clearFlags data).evtRL.get d = (s.evtRL.get d && !w1cRelock data d) := by cases d <;> rfl

theorem clearFlags_evtRJ (s : State) (data : Word) (d : Dir) :
    (s.clearFlags data).evtRJ.get d = (s.evtRJ.get d && !w1cReject data d) := by cases d <;> rfl

/-- A sequencer step sets LOCKED_OPEN_x at most, by the commit of UNLOCK_LOCKEDOPEN. -/
theorem advanceSeq_evtLO (s : State) :
    s.advanceSeq.evtLO = s.evtLO ∨
      s.seq.kind = .unlockLockedOpen ∧ s.advanceSeq.evtLO = s.evtLO.set s.seq.dir true := by
  obtain ⟨-, -, e⟩ | ⟨-, e⟩ := advanceSeq_cases s <;> rw [e]
  · exact .inl rfl
  · rw [iterationEnd_evtLO, setSeq_evtLO]
    obtain ⟨-, e⟩ | ⟨hkind, e⟩ | ⟨-, e⟩ := commit_cases s s.seq.kind s.seq.dir <;> rw [e]
    · exact .inl rfl
    · exact .inr ⟨hkind, rfl⟩
    · exact .inl rfl

/-- A sequencer step sets RELOCK_x at most, by the commit of RELOCK. -/
theorem advanceSeq_evtRL (s : State) :
    s.advanceSeq.evtRL = s.evtRL ∨ s.seq.kind = .relock ∧ s.advanceSeq.evtRL = s.evtRL.set s.seq.dir true := by
  obtain ⟨-, -, e⟩ | ⟨-, e⟩ := advanceSeq_cases s <;> rw [e]
  · exact .inl rfl
  · rw [iterationEnd_evtRL, setSeq_evtRL]
    obtain ⟨-, e⟩ | ⟨-, e⟩ | ⟨hkind, e⟩ := commit_cases s s.seq.kind s.seq.dir <;> rw [e]
    · exact .inl rfl
    · exact .inl rfl
    · exact .inr ⟨hkind, rfl⟩

section
variable {i : Instr} {s t : State}

theorem Effect.doorTrig (h : Effect s i t) (hi : i ≠ .reset) :
    FlagStep (i = .pinDoorEdge) (i = .eval) s.doorTrig t.doorTrig := by
  cases h with
  | doorEdge => exact .set rfl
  | evalRuns =>
    rw [evaluate_doorTrig]
    exact .clear rfl
  | seqAdvances =>
    rw [advanceSeq_doorTrig]
    exact .same
  | reset => exact absurd rfl hi
  | _ => exact .same

theorem Effect.evtBad (h : Effect s i t) (hi : i ≠ .reset) :
    FlagStep (∃ data, i = .wrLockCmdRsvd data) (∃ data, i = .wrEvtFlags data) s.evtBad t.evtBad := by
  cases h with
  | badCommand data => exact .set ⟨data, rfl⟩
  | flagClear data => exact .mask ⟨data, rfl⟩ _
  | evalRuns =>
    rw [evaluate_evtBad]
    exact .same
  | seqAdvances =>
    rw [advanceSeq_evtBad]
    exact .same
  | reset => exact absurd rfl hi
  | _ => exact .same

theorem Effect.evtLO (h : Effect s i t) (hi : i ≠ .reset) (d : Dir) :
    FlagStep (i = .seqAdvance ∧ s.seq.kind = .unlockLockedOpen ∧ s.seq.dir = d) (∃ data, i = .wrEvtFlags data)
      (s.evtLO.get d) (t.evtLO.get d) := by
  cases h with
  | flagClear data =>
    rw [clearFlags_evtLO]
    exact .mask ⟨data, rfl⟩ _
  | evalRuns =>
    rw [evaluate_evtLO]
    exact .same
  | seqAdvances =>
    obtain e | ⟨hkind, e⟩ := advanceSeq_evtLO s <;> rw [e]
    · exact .same
    · exact .setDir fun hdir => ⟨rfl, hkind, hdir⟩
  | reset => exact absurd rfl hi
  | _ => exact .same

theorem Effect.evtRL (h : Effect s i t) (hi : i ≠ .reset) (d : Dir) :
    FlagStep (i = .seqAdvance ∧ s.seq.kind = .relock ∧ s.seq.dir = d) (∃ data, i = .wrEvtFlags data)
      (s.evtRL.get d) (t.evtRL.get d) := by
  cases h with
  | flagClear data =>
    rw [clearFlags_evtRL]
    exact .mask ⟨data, rfl⟩ _
  | evalRuns =>
    rw [evaluate_evtRL]
    exact .same
  | seqAdvances =>
    obtain e | ⟨hkind, e⟩ := advanceSeq_evtRL s <;> rw [e]
    · exact .same
    · exact .setDir fun hdir => ⟨rfl, hkind, hdir⟩
  | reset => exact absurd rfl hi
  | _ => exact .same

theorem Effect.evtRJ (h : Effect s i t) (hi : i ≠ .reset) (d : Dir) :
    FlagStep (∃ data, i = .wrLockUnlock data ∧ (s.lk.get (opp d)).isOpen = true) (∃ data, i = .wrEvtFlags data)
      (s.evtRJ.get d) (t.evtRJ.get d) := by
  cases h with
  | unlockRejected data _ hopen => exact .setDir fun hdir => ⟨data, rfl, hdir ▸ hopen⟩
  | flagClear data =>
    rw [clearFlags_evtRJ]
    exact .mask ⟨data, rfl⟩ _
  | evalRuns =>
    rw [evaluate_evtRJ]
    exact .same
  | seqAdvances =>
    rw [advanceSeq_evtRJ]
    exact .same
  | reset => exact absurd rfl hi
  | _ => exact .same

end

/-- Settles O59, flag by flag: the two columns of R27 are the two halves of each flag's `FlagStep`. -/
theorem flagsAreWrittenOnlyByTheListedSteps : Obligations.FlagsAreWrittenOnlyByTheListedSteps := by
  intro i s t d h hi
  have heffect := effect_of_exec h
  have htrig := heffect.doorTrig hi
  have hbad := heffect.evtBad hi
  have hlo := heffect.evtLO hi d
  have hrl := heffect.evtRL hi d
  have hrj := heffect.evtRJ hi d
  refine ⟨htrig.up, htrig.down, hbad.up, hlo.up, hrl.up, hrj.up, ?_⟩
  rintro (⟨new, old⟩ | ⟨new, old⟩ | ⟨new, old⟩ | ⟨new, old⟩)
  · exact hbad.down new old
  · exact hlo.down new old
  · exact hrl.down new old
  · exact hrj.down new old

end Sys2Proof.Machine
end

section
/-! O35, O36, O37, O45, O48: what the actuators show and what a bus read returns. -/

namespace Sys2Proof.Machine

/-! ### The actuators (R20) -/

/-- Settles O35, phase by phase. -/
theorem actuatorLevelsFollowTheSequencer : Obligations.ActuatorLevelsFollowTheSequencer := by
  intro s d
  refine ⟨fun hphase hdir hkind => ?_, fun hphase hdir hkind => ?_, fun hphase hdir => ?_, ?_⟩
  · have hlevel : driveLevel s.seq.kind = .driveOpen := by
      cases hk : s.seq.kind with
      | relock => exact absurd hk hkind
      | unlockPermit | unlockLockedOpen => rfl
    simp [act, hdir, hphase, hlevel, actCode]
  · simp [act, hdir, hphase, hkind, driveLevel, actCode]
  · simp [act, hdir, hphase, actCode]
  · rintro (hphase | hdir)
    · simp [act, hphase, actCode]
    · simp [act, hdir, actCode]

/-! ### Words of a 64-bit quantity (R52) -/

theorem loWord_eq (v : BitVec 64) : loWord v = BitVec.ofNat 32 v.toNat := by
  apply BitVec.eq_of_toNat_eq
  rw [loWord, BitVec.extractLsb'_toNat, Nat.shiftRight_zero, BitVec.toNat_ofNat]

theorem hiWord_eq (v : BitVec 64) : hiWord v = BitVec.ofNat 32 (v.toNat / 2 ^ 32) := by
  apply BitVec.eq_of_toNat_eq
  rw [hiWord, BitVec.extractLsb'_toNat, Nat.shiftRight_eq_div_pow, BitVec.toNat_ofNat]

/-- Settles O37: each read returns the low or the high word. -/
theorem lockTimeReadsReturnTheirWords : Obligations.LockTimeReadsReturnTheirWords := by
  intro d s
  simp only [← loWord_eq, ← hiWord_eq]
  exact ⟨rfl, rfl, rfl, rfl⟩

/-! ### The flag and status words, bit by bit (R27, R28) -/

@[simp] theorem getLsbD_bit1 (b : Bool) (k : Nat) : (bit1 b).getLsbD k = (decide (k = 0) && b) := by
  simp [bit1, BitVec.getLsbD_ofBool]

theorem ready_iff (s : State) (c : Dir) :
    ready s c = true ↔ (s.ch.get c).dlv = true ∧ (s.ch.get c).dl.toNat < s.now.toNat := by
  simp [ready, expired, BitVec.ult]

/-- A word has no bits above those it is filled from. -/
theorem getLsbD_setWidth_of_le {n m k : Nat} (x : BitVec n) (h : n ≤ k) : (x.setWidth m).getLsbD k = false := by
  rw [BitVec.getLsbD_setWidth, BitVec.getLsbD_of_ge x k h, Bool.and_false]

/-- Settles O45: each bit of the word is the one appended at its place. -/
theorem eventFlagBits : Obligations.EventFlagBits := by
  intro s
  refine ⟨evtFlagsWord s, rfl, ?_⟩
  rw [← perDir_get_entry, ← perDir_get_exit, ← ready_iff, ← ready_iff]
  refine ⟨?_, ?_, ?_, ?_, ?_, ?_, ?_, ?_, ?_, ?_, fun k hk => getLsbD_setWidth_of_le _ hk⟩ <;>
    simp only [evtFlagsWord, BitVec.getLsbD_setWidth, BitVec.getLsbD_append, getLsbD_bit1] <;> simp

theorem seqBusy_iff (s : State) : seqBusy s = true ↔ s.seq.phase ≠ .idle := by
  simp [seqBusy]

theorem evalHeldView_iff (s : State) : evalHeldView s = true ↔ s.now.toNat < s.evalHold.toNat := by
  simp [evalHeldView, BitVec.ult]

theorem dir_bit_iff (d : Dir) : d.bit = true ↔ d = .exit := by
  cases d <;> decide

/-- Settles O36: each bit and each field of the word is the one appended at its place. -/
theorem lockStatusBits : Obligations.LockStatusBits := by
  intro s
  refine ⟨lockStatusWord s, rfl, ?_⟩
  rw [← SensorReadsOpen, ← sensorOpen_iff, ← seqBusy_iff, ← dir_bit_iff, ← evalHeldView_iff]
  refine ⟨?_, ?_, ?_, ?_, ?_, ?_, ?_, ?_, ?phase, ?actEntry, ?actExit, ?kind, ?_, ?_, ?_, ?_,
    fun k hk => getLsbD_setWidth_of_le _ hk⟩
  case phase | actEntry | actExit | kind =>
    rw [lockStatusWord, BitVec.extractLsb'_setWidth_of_le (by decide)]
    simp (disch := decide) only [BitVec.extractLsb'_append_eq_of_le, BitVec.extractLsb'_append_eq_of_add_le]
    exact BitVec.extractLsb'_eq_self
  all_goals
    simp only [lockStatusWord, BitVec.getLsbD_setWidth, BitVec.getLsbD_append, getLsbD_bit1]
    simp

/-! ### The register map (R24) -/

/-- The stimulus that reads a register, at word `w` where it is write-only. -/
def regRead (w : WordIdx) : Reg → Instr
  | .chStatus c => .rdChStatus c
  | .chCount c => .rdChCount c
  | .chBufLo c => .rdChBufLo c
  | .chBufHi c => .rdChBufHi c
  | .chDlLo c => .rdChDlLo c
  | .chDlHi c => .rdChDlHi c
  | .chDecode c => .rdChDecode c
  | .chCtrl _ => .rdReserved w
  | .evtFlags => .rdEvtFlags
  | .lockStatus => .rdLockStatus
  | .lockCmd => .rdReserved w
  | .closeDlLo d => .rdCloseDlLo d
  | .closeDlHi d => .rdCloseDlHi d
  | .lastRelockLo d => .rdLastRelockLo d
  | .lastRelockHi d => .rdLastRelockHi d
  | .nowLo => .rdNowLo
  | .nowHi => .rdNowHi

/-- Reading a register returns its content. -/
theorem exec_regRead (w : WordIdx) (r : Reg) (s : State) : exec (regRead w r) s = .next (s.busReturn (regContent s r)) := by
  cases r <;> rfl

/-- The decoder places each register where R24's index formulas do. -/
theorem decodeRead_eq (w : WordIdx) : decodeRead w = (regAt w).elim (.rdReserved w) (regRead w) := by
  revert w
  decide

theorem memRead_eq (s : State) (w : WordIdx) : memRead s w = (regAt w).elim 0#32 (regContent s) := by
  unfold memRead
  cases regAt w <;> rfl

/-- Settles O48: at a register the read is the register's, elsewhere it is reserved. -/
theorem busReadReturnsTheRegisterMap : Obligations.BusReadReturnsTheRegisterMap := by
  intro w s
  rw [decodeRead_eq, memRead_eq]
  cases regAt w with
  | none => rfl
  | some r => exact exec_regRead w r s

end Sys2Proof.Machine
end

section
/-! O1, O22, O58: how an arriving word reaches its meaning, and what a capture stimulus reads and writes. -/

namespace Sys2Proof.Machine

/-! ### The arriving stimulus (R55, R70, R75) -/

theorem busStalled_eq_false (s : State) : busStalled s = false ↔ s.waiting.bus = [] := by
  simp [busStalled]

/-- Settles O1: a word runs its stimulus unless a host access finds the bus stalled, which the premise shuts out. -/
theorem stepRunsTheDecodedStimulus : Obligations.StepRunsTheDecodedStimulus := by
  intro s x rest i hs hd hfree
  refine step_of_arrive hs hd ?_
  cases haccess : isBusAccess i with
  | false => rfl
  | true => exact (busStalled_eq_false s).mpr (hfree haccess)

/-! ### What a capture stimulus reads (R101, R104, R105) -/

theorem ready_congr {s s' : State} {c : Dir} (hch : s.ch.get c = s'.ch.get c) (hnow : s.now = s'.now) :
    ready s c = ready s' c := by
  unfold ready
  rw [hch, hnow]

theorem chStatusWord_congr {s s' : State} {c : Dir} (hch : s.ch.get c = s'.ch.get c) (hnow : s.now = s'.now) :
    chStatusWord s c = chStatusWord s' c := by
  unfold chStatusWord lenOk
  rw [hch, ready_congr hch hnow]

theorem chCountWord_congr {s s' : State} {c : Dir} (hch : s.ch.get c = s'.ch.get c) :
    chCountWord s c = chCountWord s' c := by
  unfold chCountWord
  rw [hch]

theorem chDecodeWord_congr {s s' : State} {c : Dir} (hch : s.ch.get c = s'.ch.get c) :
    chDecodeWord s c = chDecodeWord s' c := by
  unfold chDecodeWord
  rw [hch]

theorem append_capture_congr {s s' : State} {c : Dir} (b : Bool) (hch : s.ch.get c = s'.ch.get c) (hnow : s.now = s'.now)
    (hcfg : s.cfg = s'.cfg) : (s.append c b).ch.get c = (s'.append c b).ch.get c := by
  simp only [append_eq, perDir_get_set_same]
  rw [hch, hnow, hcfg]

/-! ### What a capture stimulus writes -/

/-- `t` and `t'` agree on channel `c` and on the returned value, and `t` is `s` but for these two. -/
structure LocalTo (c : Dir) (s t t' : State) : Prop where
  channel : t.ch.get c = t'.ch.get c
  returned : t.busOut = t'.busOut
  other : t.ch.get (opp c) = s.ch.get (opp c)
  frame : t = { s with ch := t.ch, busOut := t.busOut }

section
variable {s s' : State} {c : Dir}

/-- Reads that return the same value. -/
theorem LocalTo.busReturn (hch : s.ch.get c = s'.ch.get c) {v v' : Word} (hv : v = v') :
    LocalTo c s (s.busReturn v) (s'.busReturn v') where
  channel := hch
  returned := congrArg some hv
  other := rfl
  frame := rfl

/-- Writes of the same capture state to channel `c`. -/
theorem LocalTo.setCh (hbus : s.busOut = s'.busOut) {x x' : Capture} (hx : x = x') :
    LocalTo c s (s.setCh c x) (s'.setCh c x') where
  channel := by simp [hx]
  returned := hbus
  other := by simp
  frame := rfl

/-- No effect (R107). -/
theorem LocalTo.unchanged (hch : s.ch.get c = s'.ch.get c) (hbus : s.busOut = s'.busOut) : LocalTo c s s s' where
  channel := hch
  returned := hbus
  other := rfl
  frame := rfl

/-- A bit edge: what it appends to channel `c` is a function of that channel, the time and the parameters (R101). -/
theorem LocalTo.append (hch : s.ch.get c = s'.ch.get c) (hnow : s.now = s'.now) (hcfg : s.cfg = s'.cfg)
    (hbus : s.busOut = s'.busOut) (b : Bool) : LocalTo c s (s.append c b) (s'.append c b) := by
  rw [append_eq_setCh s, append_eq_setCh s']
  exact .setCh hbus (append_capture_congr b hch hnow hcfg)

end

/-- Settles O22, in the order of its list: two edges, the reset, the write without effect, and seven reads whose words agree
because what they are made of agrees. -/
theorem captureFamilyIsLocalToItsChannel : Obligations.CaptureFamilyIsLocalToItsChannel := by
  intro c data i s s' t t' hi hch hnow hcfg hbus h h'
  suffices hlocal : LocalTo c s t t' from ⟨hlocal.channel, hlocal.returned, hlocal.other, hlocal.frame⟩
  simp only [List.mem_cons, List.not_mem_nil, or_false] at hi
  obtain rfl | rfl | rfl | rfl | rfl | rfl | rfl | rfl | rfl | rfl | rfl := hi <;> cases h <;> cases h'
  · exact .append hch hnow hcfg hbus false
  · exact .append hch hnow hcfg hbus true
  · exact .setCh hbus rfl
  · exact .unchanged hch hbus
  · exact .busReturn hch (chStatusWord_congr hch hnow)
  · exact .busReturn hch (chCountWord_congr hch)
  · exact .busReturn hch (by rw [hch])
  · exact .busReturn hch (by rw [hch])
  · exact .busReturn hch (by rw [hch])
  · exact .busReturn hch (by rw [hch])
  · exact .busReturn hch (chDecodeWord_congr hch)

/-! ### What writes capture state (R65) -/

/-- A write to one channel changes no other. -/
theorem eq_of_setCh_changed {s : State} {c e : Dir} {x : Capture} (h : (s.setCh e x).ch.get c ≠ s.ch.get c) : c = e := by
  by_contra hother
  exact h (perDir_get_set_other _ hother x)

/-- Settles O58: of all effects only an edge, a channel reset and RESET write a channel, the first two their own. -/
theorem onlyEdgesAndResetsWriteCaptureState : Obligations.OnlyEdgesAndResetsWriteCaptureState := by
  intro i s t c h hne
  cases effect_of_exec h with
  | edge e b =>
    obtain rfl := eq_of_setCh_changed hne
    cases b
    · exact .inl rfl
    · exact .inr (.inl rfl)
  | channelReset e data =>
    obtain rfl := eq_of_setCh_changed hne
    exact .inr (.inr (.inl ⟨data, rfl⟩))
  | reset => exact .inr (.inr (.inr rfl))
  | evalRuns => exact absurd (by rw [evaluate_ch]) hne
  | seqAdvances => exact absurd (by rw [advanceSeq_ch]) hne
  | _ => exact absurd rfl hne

end Sys2Proof.Machine
end

section
/-! SUPPORT. The legal words as CLASS, ARG and DATA, and what the decoder reads from each of them (R70 to R76). -/

namespace Sys2Proof.Machine

/-- The word with RSV 0 and the given CLASS, ARG and DATA (R70). -/
def wordOf (cls : BitVec 4) (a : BitVec 8) (data : Word) : StimWord := stimWord (cls ++ 0#4 ++ a) data

theorem wordOf_fields {x : StimWord} (h : wordRsv x = 0#4) : wordOf (wordClass x) (wordArg x) (wordData x) = x := by
  have hhead := head_split (x.extractLsb' 32 16)
  have hx := stimWord_split x
  rw [← hx] at h ⊢
  simp only [wordOf, wordClass_stimWord, wordRsv_stimWord, wordArg_stimWord, wordData_stimWord] at h ⊢
  rw [← h, hhead]

theorem decode_wordOf (cls : BitVec 4) (a : BitVec 8) (data : Word) :
    decode (wordOf cls a data) = decodeFields cls 0#4 a data := by
  have hfields : (cls ++ 0#4 ++ a).extractLsb' 12 4 = cls ∧ (cls ++ 0#4 ++ a).extractLsb' 8 4 = 0#4 ∧
      (cls ++ 0#4 ++ a).extractLsb' 0 8 = a := by
    simp (disch := decide) only [BitVec.extractLsb'_append_eq_of_le, BitVec.extractLsb'_append_eq_of_add_le,
      Nat.reduceSub, BitVec.extractLsb'_eq_self, and_self]
  obtain ⟨hcls, hrsv, ha⟩ := hfields
  rw [wordOf, decode_stimWord, hcls, hrsv, ha]

/-- The ARG of a bus word with ARG[7:6] = 0 is its word index. -/
theorem arg_of_argIndex {a : BitVec 8} (h : a.extractLsb' 6 2 = 0#2) : (argIndex a).setWidth 8 = a := by
  revert a
  decide

theorem argIndex_setWidth (w : WordIdx) : argIndex (w.setWidth 8) = w := by
  revert w
  decide

theorem busArg_setWidth (w : WordIdx) : (w.setWidth 8).extractLsb' 6 2 = 0#2 := by
  revert w
  decide

/-- `Spells x i`: the word `x` is legal and stands for `i`, class by class (R71 to R74). -/
inductive Spells : StimWord → Instr → Prop where
  | read (w : WordIdx) : Spells (wordOf 0x0#4 (w.setWidth 8) 0#32) (decodeRead w)
  | write (w : WordIdx) (data : Word) : Spells (wordOf 0x1#4 (w.setWidth 8) data) (decodeWrite w data)
  | pin {a : BitVec 8} {i : Instr} : decodePin a = .ok i → Spells (wordOf 0x2#4 a 0#32) i
  | tick : Spells (wordOf 0x3#4 0#8 0#32) .tick
  | reset : Spells (wordOf 0x4#4 0#8 0#32) .reset
  | internal {a : BitVec 8} {i : Instr} : decodeInternal a = .ok i → Spells (wordOf 0x8#4 a 0#32) i

theorem decode_read (w : WordIdx) : decode (wordOf 0x0#4 (w.setWidth 8) 0#32) = .ok (decodeRead w) := by
  rw [decode_wordOf]
  simp [decodeFields, busArg_setWidth, argIndex_setWidth]

theorem decode_write (w : WordIdx) (data : Word) :
    decode (wordOf 0x1#4 (w.setWidth 8) data) = .ok (decodeWrite w data) := by
  rw [decode_wordOf]
  simp [decodeFields, busArg_setWidth, argIndex_setWidth]

/-- A checked result is there when the check finds nothing wrong and what follows gives it. -/
theorem guard_eq_ok_iff {p : Prop} [Decidable p] {e : Illegal} {r : Except Illegal Instr} {i : Instr} :
    (if p then .error e else r) = .ok i ↔ ¬p ∧ r = .ok i := by
  by_cases h : p <;> simp [h]

/-- The inversion of the decoder: a word that decodes is one of those listed. -/
theorem spells_of_decode {x : StimWord} {i : Instr} (h : decode x = .ok i) : Spells x i := by
  unfold decode decodeFields at h
  obtain ⟨hrsv, h⟩ := guard_eq_ok_iff.mp h
  have hx : wordOf (wordClass x) (wordArg x) (wordData x) = x := wordOf_fields (by simpa using hrsv)
  rw [← hx]
  clear hx hrsv
  generalize wordClass x = cls, wordArg x = a, wordData x = data at h
  split at h <;> simp only [guard_eq_ok_iff, bne_iff_ne, ne_eq, not_not, Except.ok.injEq, reduceCtorEq] at h
  · obtain ⟨ha, rfl, rfl⟩ := h
    rw [← arg_of_argIndex ha, argIndex_setWidth]
    exact .read _
  · obtain ⟨ha, rfl⟩ := h
    rw [← arg_of_argIndex ha, argIndex_setWidth]
    exact .write _ data
  · obtain ⟨rfl, h⟩ := h
    exact .pin h
  · obtain ⟨rfl, rfl, rfl⟩ := h
    exact .tick
  · obtain ⟨rfl, rfl, rfl⟩ := h
    exact .reset
  · obtain ⟨rfl, h⟩ := h
    exact .internal h

/-! ### The write rows (R75, R77) -/

theorem decodeWrite_lockCmd (data : Word) :
    decodeWrite 0x12#6 data = if data.extractLsb' 0 4 == 0x1#4 then .wrLockUnlock data else .wrLockCmdRsvd data := rfl

/-- CH_CTRL(c) is word 0x07 or 0x0F. -/
theorem decodeWrite_chCtrl (c : Dir) (data : Word) :
    decodeWrite (regWord (.chCtrl c)) data =
      if data.getLsbD 0 then .wrChReset c data else .wrChCtrlNop c data := by
  cases c <;> rfl

theorem decodeWrite_ignored {w : WordIdx} (h : writeIgnored w = true) (data : Word) : decodeWrite w data = .wrIgnored w data := by
  unfold decodeWrite
  split
  · cases h
  · cases h
  · cases h
  · cases h
  · rfl

end Sys2Proof.Machine
end

section
/-! O8, O9, O11: encoding and decoding undo each other (R70 to R79). -/

namespace Sys2Proof.Machine

/-! ### The encoder on what a word spells -/

theorem encode_decodeRead (w : WordIdx) : encode (decodeRead w) = wordOf 0x0#4 (w.setWidth 8) 0#32 := by
  revert w
  decide

theorem wrIgnored_head (w : WordIdx) : (0x1000#16 ||| w.setWidth 16 : BitVec 16) = 0x1#4 ++ 0#4 ++ w.setWidth 8 := by
  revert w
  decide

theorem encode_wrIgnored (w : WordIdx) (data : Word) : encode (.wrIgnored w data) = wordOf 0x1#4 (w.setWidth 8) data :=
  congrArg (stimWord · data) (wrIgnored_head w)

theorem encode_decodeWrite (w : WordIdx) (data : Word) : encode (decodeWrite w data) = wordOf 0x1#4 (w.setWidth 8) data := by
  unfold decodeWrite
  split
  · split <;> rfl
  · split <;> rfl
  · rfl
  · split <;> rfl
  · exact encode_wrIgnored w data

theorem encode_of_decodePin {a : BitVec 8} {i : Instr} (h : decodePin a = .ok i) : encode i = wordOf 0x2#4 a 0#32 := by
  unfold decodePin at h
  split at h <;> cases h <;> rfl

theorem encode_of_decodeInternal {a : BitVec 8} {i : Instr} (h : decodeInternal a = .ok i) :
    encode i = wordOf 0x8#4 a 0#32 := by
  unfold decodeInternal at h
  split at h <;> cases h <;> rfl

theorem Spells.encode_eq {x : StimWord} {i : Instr} (h : Spells x i) : encode i = x := by
  cases h with
  | read w => exact encode_decodeRead w
  | write w data => exact encode_decodeWrite w data
  | pin h => exact encode_of_decodePin h
  | tick => rfl
  | reset => rfl
  | internal h => exact encode_of_decodeInternal h

/-- Settles O9: the encoder rebuilds each of the words that spell a stimulus, and what a word decodes to is well formed. -/
theorem encodeOfDecodeIsTheWord : Obligations.EncodeOfDecodeIsTheWord := fun _ _ h =>
  ⟨(spells_of_decode h).encode_eq, decode_wf h⟩

/-! ### The decoder on an encoded stimulus -/

theorem decodeRead_reserved {w : WordIdx} (h : readReserved w = true) : decodeRead w = .rdReserved w := by
  revert w
  decide

/-- A stimulus that is what a read of `w` spells. -/
theorem decode_encode_of_read {i : Instr} (w : WordIdx) (h : decodeRead w = i) : decode (encode i) = .ok i := by
  rw [← h, encode_decodeRead, decode_read]

/-- A stimulus that is what a write of `data` to `w` spells. -/
theorem decode_encode_of_write {i : Instr} (w : WordIdx) (data : Word) (h : decodeWrite w data = i) :
    decode (encode i) = .ok i := by
  rw [← h, encode_decodeWrite, decode_write]

/-- Settles O8: a stimulus without data is decided for each direction; one that writes data is what its row keeps of the
writes to its word, which the check of well-formedness says. -/
theorem decodeOfEncodeIsTheStimulus : Obligations.DecodeOfEncodeIsTheStimulus := by
  intro i hwf
  cases i with
  | rdChStatus c | rdChCount c | rdChBufLo c | rdChBufHi c | rdChDlLo c | rdChDlHi c | rdChDecode c
  | rdCloseDlLo c | rdCloseDlHi c | rdLastRelockLo c | rdLastRelockHi c | pinD0Fall c | pinD1Fall c => cases c <;> rfl
  | rdEvtFlags | rdLockStatus | rdNowLo | rdNowHi | pinDoorEdge | tick | reset | eval | seqAdvance => rfl
  | rdReserved w => exact decode_encode_of_read w (decodeRead_reserved hwf)
  | wrIgnored w data => exact decode_encode_of_write w data (decodeWrite_ignored hwf data)
  | wrEvtFlags data => exact decode_encode_of_write 0x10#6 data rfl
  | wrChReset c data => exact decode_encode_of_write _ data ((decodeWrite_chCtrl c data).trans (if_pos hwf))
  | wrChCtrlNop c data =>
    exact decode_encode_of_write _ data ((decodeWrite_chCtrl c data).trans (if_neg (by simpa [Instr.wf] using hwf)))
  | wrLockUnlock data => exact decode_encode_of_write _ data ((decodeWrite_lockCmd data).trans (if_pos hwf))
  | wrLockCmdRsvd data =>
    exact decode_encode_of_write _ data ((decodeWrite_lockCmd data).trans (if_neg (by simpa [Instr.wf] using hwf)))

/-- Settles O11: each word is the encoding of its stimulus. -/
theorem specWordsDecode : Obligations.SpecWordsDecode := by
  have spelt (x : StimWord) (i : Instr) (hx : encode i = x) (hwf : i.wf = true) : decode x = .ok i :=
    hx ▸ decodeOfEncodeIsTheStimulus i hwf
  refine ⟨?_, ?_, ?_, ?_, ?_, ?_, ?_, ?_, ?_, ?_, ?_, ?_, ?_, ?_, ?_⟩ <;> exact spelt _ _ rfl rfl

end Sys2Proof.Machine
end

section
/-! O3: the ILLEGAL words (R76, R211). -/

namespace Sys2Proof.Machine

theorem exists_guard_eq_error_iff {p : Prop} [Decidable p] {e : Illegal} {r : Except Illegal Instr} :
    (∃ e', (if p then .error e else r) = .error e') ↔ p ∨ ∃ e', r = .error e' := by
  by_cases h : p <;> simp [h]

theorem busArg_ne_zero_iff (a : BitVec 8) : a.extractLsb' 6 2 ≠ 0#2 ↔ 64 ≤ a.toNat := by
  revert a
  decide

theorem exists_decodePin_eq_error_iff (a : BitVec 8) :
    (∃ e, decodePin a = .error e) ↔ 4 ≤ a.toNat ∧ a.toNat ≠ 16 := by
  unfold decodePin
  split
  case h_6 =>
    simp_all [← BitVec.toNat_inj]
    omega
  all_goals simp

theorem exists_decodeInternal_eq_error_iff (a : BitVec 8) : (∃ e, decodeInternal a = .error e) ↔ 2 ≤ a.toNat := by
  unfold decodeInternal
  split
  case h_3 =>
    simp_all [← BitVec.toNat_inj]
    omega
  all_goals simp

/-- The checks of the decode rule that fail, class by class. -/
theorem exists_decodeFields_eq_error_iff (cls rsv : BitVec 4) (a : BitVec 8) (data : Word) :
    (∃ e, decodeFields cls rsv a data = .error e) ↔
      rsv ≠ 0#4 ∨
      ¬(cls.toNat ≤ 4 ∨ cls.toNat = 8) ∨
      (cls.toNat ≤ 1 ∧ 64 ≤ a.toNat) ∨
      (cls.toNat ≠ 1 ∧ data ≠ 0#32) ∨
      (cls.toNat = 2 ∧ 4 ≤ a.toNat ∧ a.toNat ≠ 16) ∨
      ((cls.toNat = 3 ∨ cls.toNat = 4) ∧ a ≠ 0#8) ∨
      (cls.toNat = 8 ∧ 2 ≤ a.toNat) := by
  unfold decodeFields
  rw [exists_guard_eq_error_iff, bne_iff_ne]
  refine or_congr_right ?_
  split
  case h_7 h0 h1 h2 h3 h4 h8 =>
    have hcls : ¬(cls.toNat ≤ 4 ∨ cls.toNat = 8) := by
      simp only [← BitVec.toNat_inj, BitVec.toNat_ofNat, imp_false] at h0 h1 h2 h3 h4 h8
      omega
    simp [hcls]
  all_goals
    simp only [exists_guard_eq_error_iff, bne_iff_ne, busArg_ne_zero_iff, exists_decodePin_eq_error_iff,
      exists_decodeInternal_eq_error_iff]
    simp [or_comm]

/-- The step of an ILLEGAL word marks and records, and takes its turn off the schedule. -/
theorem step_of_illegal {s : State} {x : StimWord} {rest : List Turn} {e : Illegal} (hs : s.schedule = .arrive x :: rest)
    (hd : decode x = .error e) : step s = .next (({ s with schedule := rest } : State).raiseRefused (.illegalStimulus x)) := by
  simp [step, hs, takeTurn, arrive, hd]

/-- Settles O3: the list is the failing checks of the decode rule on the four fields, and a refusal writes the mark and the
record only. -/
theorem illegalWordsAreRefusedAndOnlyMarked : Obligations.IllegalWordsAreRefusedAndOnlyMarked := fun _ =>
  ⟨exists_decodeFields_eq_error_iff _ _ _ _, fun _ _ _ hs hd => step_of_illegal hs hd⟩

end Sys2Proof.Machine
end

section
/-! O10: the decoder is the most specific row of the opcode table (R75). -/

namespace Sys2Proof.Machine

/-! ### Hits, as conditions on the head and on DATA -/

/-- The top 16 bits of a word: CLASS, RSV and ARG. -/
def wordHead (x : StimWord) : BitVec 16 := x.extractLsb' 32 16

@[simp] theorem wordHead_stimWord (h : BitVec 16) (data : Word) : wordHead (stimWord h data) = h :=
  (stimWord_extract_head h data 0 16).trans BitVec.extractLsb'_eq_self

theorem hits_iff (r : OpRow) (x : StimWord) : r.hits x = true ↔ x &&& r.mask = r.pattern := beq_iff_eq

theorem wordHead_of_hits {r : OpRow} {x : StimWord} (h : r.hits x = true) :
    wordHead x &&& wordHead r.mask = wordHead r.pattern := by
  rw [← (hits_iff r x).mp h]
  exact BitVec.extractLsb'_and.symm

theorem wordData_of_hits {r : OpRow} {x : StimWord} (h : r.hits x = true) :
    wordData x &&& wordData r.mask = wordData r.pattern := by
  rw [← (hits_iff r x).mp h]
  exact BitVec.extractLsb'_and.symm

theorem mem_matchingRows {r : OpRow} {x : StimWord} : r ∈ matchingRows x ↔ r ∈ opcodeTable ∧ r.hits x = true :=
  List.mem_filter

theorem wordHead_encode (i : Instr) : wordHead (encode i) = encodeHead i := wordHead_stimWord _ _

theorem wordData_encode (i : Instr) : wordData (encode i) = encodeData i := wordData_stimWord _ _

/-! ### Rows that overlap -/

/-- The overlaps that R75 lists: `r` is the less specific row. -/
@[reducible] def ListedOverlap (r q : OpRow) : Prop :=
  (r.mnemonic = "WR_LOCK_CMD_RSVD" ∧ q.mnemonic = "WR_LOCK_UNLOCK") ∨
  (r.mnemonic = "RD_RESERVED" ∧ q ∈ readRows) ∨
  (r.mnemonic = "WR_IGNORED" ∧ q ∈ writeRows)

/-- Two rows that one word matches agree on the bits that both masks keep. -/
theorem patterns_agree_of_hits {r q : OpRow} {x : StimWord} (hr : r.hits x = true) (hq : q.hits x = true) :
    r.pattern &&& q.mask = q.pattern &&& r.mask := by
  rw [← (hits_iff r x).mp hr, ← (hits_iff q x).mp hq, BitVec.and_assoc, BitVec.and_assoc, BitVec.and_comm r.mask]

/-- The overlapping pairs of the table. -/
theorem rows_that_agree : ∀ r ∈ opcodeTable, ∀ q ∈ opcodeTable, r.pattern &&& q.mask = q.pattern &&& r.mask →
    r = q ∨ (ListedOverlap r q ∧ r.specificity < q.specificity) ∨ (ListedOverlap q r ∧ q.specificity < r.specificity) := by
  decide

theorem matching_rows_overlap {r q : OpRow} {x : StimWord} (hr : r ∈ matchingRows x) (hq : q ∈ matchingRows x) :
    r = q ∨ (ListedOverlap r q ∧ r.specificity < q.specificity) ∨ (ListedOverlap q r ∧ q.specificity < r.specificity) := by
  obtain ⟨hrt, hr⟩ := mem_matchingRows.mp hr
  obtain ⟨hqt, hq⟩ := mem_matchingRows.mp hq
  exact rows_that_agree r hrt q hqt (patterns_agree_of_hits hr hq)

/-! ### The rule "the most 1 bits" -/

/-- The rule takes a row of the list that no other exceeds, unless the list is empty. -/
theorem mostSpecific_spec (l : List OpRow) :
    (l = [] ∧ mostSpecific l = none) ∨
    ∃ m ∈ l, mostSpecific l = some m ∧ ∀ q ∈ l, q.specificity ≤ m.specificity := by
  induction l with
  | nil => exact .inl ⟨rfl, rfl⟩
  | cons r rs ih =>
    right
    obtain ⟨rfl, e⟩ | ⟨best, hbest, e, hmax⟩ := ih <;> simp only [mostSpecific, e]
    · exact ⟨r, by simp, rfl, by simp⟩
    · split
      case isTrue hle =>
        exact ⟨r, by simp, rfl, List.forall_mem_cons.mpr ⟨le_rfl, fun q hq => (hmax q hq).trans hle⟩⟩
      case isFalse hlt =>
        exact ⟨best, by simp [hbest], rfl, List.forall_mem_cons.mpr ⟨by omega, hmax⟩⟩

/-! ### A word that matches a row is legal -/

/-- Every mask keeps CLASS, RSV and ARG[7:6]. -/
theorem masks_keep_upper_head : ∀ r ∈ opcodeTable, wordHead r.mask &&& 0xFFC0#16 = 0xFFC0#16 := by decide

/-- The masks of all rows but the writes keep DATA, which is 0 there. -/
theorem masks_keep_data : ∀ r ∈ readRows ++ otherRows, wordData r.mask = BitVec.allOnes 32 ∧ wordData r.pattern = 0#32 := by
  decide

/-- A head is its upper ten bits and ARG[5:0]. -/
theorem head_eq_upper_or_index (h : BitVec 16) : h = (h &&& 0xFFC0#16) ||| (h.extractLsb' 0 6).setWidth 16 := by
  refine BitVec.eq_of_getLsbD_eq fun k hk => ?_
  interval_cases k <;> simp

/-- A word that matches a row is the row's with ARG[5:0] and DATA filled in. -/
theorem eq_stimWord_of_hits {r : OpRow} {x : StimWord} (hr : r ∈ opcodeTable) (h : r.hits x = true) :
    ∃ (w : WordIdx) (data : Word), x = stimWord (wordHead r.pattern &&& 0xFFC0#16 ||| w.setWidth 16) data := by
  have hupper : wordHead r.pattern &&& 0xFFC0#16 = wordHead x &&& 0xFFC0#16 := by
    rw [← wordHead_of_hits h, BitVec.and_assoc, masks_keep_upper_head r hr]
  refine ⟨(wordHead x).extractLsb' 0 6, wordData x, ?_⟩
  rw [hupper, ← head_eq_upper_or_index]
  exact (stimWord_split x).symm

theorem write_rows_upper_head : ∀ r ∈ writeRows, wordHead r.pattern &&& 0xFFC0#16 = 0x1000#16 := by decide

theorem decodes_of_row_and_index : ∀ r ∈ readRows ++ otherRows, ∀ w : WordIdx,
    r.hits (stimWord (wordHead r.pattern &&& 0xFFC0#16 ||| w.setWidth 16) 0#32) = true →
    (decode (stimWord (wordHead r.pattern &&& 0xFFC0#16 ||| w.setWidth 16) 0#32)).toOption ≠ none := by
  decide

theorem decodes_of_hits {r : OpRow} {x : StimWord} (hr : r ∈ opcodeTable) (h : r.hits x = true) : ∃ i, decode x = .ok i := by
  obtain ⟨w, data, rfl⟩ := eq_stimWord_of_hits hr h
  by_cases hwrite : r ∈ writeRows
  · rw [write_rows_upper_head r hwrite]
    exact ⟨decodeWrite w data, (congrArg decode (encode_wrIgnored w data)).trans (decode_write w data)⟩
  · have hother : r ∈ readRows ++ otherRows := by
      simp only [opcodeTable, List.mem_append] at hr ⊢
      tauto
    obtain rfl : data = 0#32 := by
      have hdata := wordData_of_hits h
      obtain ⟨hmask, hpattern⟩ := masks_keep_data r hother
      rwa [hmask, hpattern, BitVec.and_allOnes, wordData_stimWord] at hdata
    cases hd : decode (stimWord (wordHead r.pattern &&& 0xFFC0#16 ||| w.setWidth 16) 0#32) with
    | ok i => exact ⟨i, rfl⟩
    | error e => exact absurd (by rw [hd]; rfl) (decodes_of_row_and_index r hother w h)

theorem matchingRows_of_illegal {x : StimWord} {e : Illegal} (h : decode x = .error e) : matchingRows x = [] := by
  refine List.eq_nil_iff_forall_not_mem.mpr fun r hr => ?_
  obtain ⟨hrt, hhits⟩ := mem_matchingRows.mp hr
  obtain ⟨i, hi⟩ := decodes_of_hits hrt hhits
  rw [h] at hi
  cases hi

/-! ### The row of a legal word -/

open Sys2Proof.Laws.EncodeHitsRow in
/-- A well-formed stimulus's word matches the row of its mnemonic. -/
theorem encode_hits_row : ∀ i : Instr, Statement i
  | .rdChStatus c => rdChStatus c
  | .rdChCount c => rdChCount c
  | .rdChBufLo c => rdChBufLo c
  | .rdChBufHi c => rdChBufHi c
  | .rdChDlLo c => rdChDlLo c
  | .rdChDlHi c => rdChDlHi c
  | .rdChDecode c => rdChDecode c
  | .wrChReset c data => wrChReset c data
  | .wrChCtrlNop c data => wrChCtrlNop c data
  | .rdEvtFlags => rdEvtFlags
  | .wrEvtFlags data => wrEvtFlags data
  | .rdLockStatus => rdLockStatus
  | .wrLockUnlock data => wrLockUnlock data
  | .wrLockCmdRsvd data => wrLockCmdRsvd data
  | .rdCloseDlLo d => rdCloseDlLo d
  | .rdCloseDlHi d => rdCloseDlHi d
  | .rdLastRelockLo d => rdLastRelockLo d
  | .rdLastRelockHi d => rdLastRelockHi d
  | .rdNowLo => rdNowLo
  | .rdNowHi => rdNowHi
  | .rdReserved w => rdReserved w
  | .wrIgnored w data => wrIgnored w data
  | .pinD0Fall c => pinD0Fall c
  | .pinD1Fall c => pinD1Fall c
  | .pinDoorEdge => pinDoorEdge
  | .tick => tick
  | .reset => reset
  | .eval => eval
  | .seqAdvance => seqAdvance

theorem eq_wrLockCmdRsvd_of_mnemonic {i : Instr} (h : i.mnemonic = "WR_LOCK_CMD_RSVD") : ∃ data, i = .wrLockCmdRsvd data := by
  cases i <;> simp_all [Instr.mnemonic]

theorem eq_rdReserved_of_mnemonic {i : Instr} (h : i.mnemonic = "RD_RESERVED") : ∃ w, i = .rdReserved w := by
  cases i <;> simp_all [Instr.mnemonic]

theorem eq_wrIgnored_of_mnemonic {i : Instr} (h : i.mnemonic = "WR_IGNORED") : ∃ w data, i = .wrIgnored w data := by
  cases i <;> simp_all [Instr.mnemonic]

theorem unlock_row_data : ∀ q ∈ opcodeTable, q.mnemonic = "WR_LOCK_UNLOCK" →
    wordData q.mask = 0xF#32 ∧ wordData q.pattern = 0x1#32 := by
  decide

theorem low4_eq_one {data : Word} (h : data &&& 0xF#32 = 0x1#32) : data.extractLsb' 0 4 = 0x1#4 := by
  rw [Sys2Proof.Laws.EncodeHitsRow.data_low4] at h
  generalize data.extractLsb' 0 4 = low at h
  revert low
  decide

/-- No read row but RD_RESERVED reads a word that R77 reserves. -/
theorem reserved_hits_no_read_row : ∀ w : WordIdx, readReserved w = true → ∀ q ∈ readRows,
    q.hits (encode (.rdReserved w)) = true → q.mnemonic = "RD_RESERVED" := by
  decide

/-- No write row but WR_IGNORED writes a word whose writes R77 ignores. -/
theorem ignored_hits_no_write_row : ∀ w : WordIdx, writeIgnored w = true → ∀ q ∈ writeRows,
    (0x1000#16 ||| w.setWidth 16) &&& wordHead q.mask = wordHead q.pattern → q.mnemonic = "WR_IGNORED" := by
  decide

/-- A more specific row than a stimulus's own does not match its word. -/
theorem mnemonic_of_listed_hit {i : Instr} {r q : OpRow} (hwf : i.wf = true) (hr : r.mnemonic = i.mnemonic)
    (hq : q ∈ opcodeTable) (hlisted : ListedOverlap r q) (hhits : q.hits (encode i) = true) : q.mnemonic = i.mnemonic := by
  rw [ListedOverlap, hr] at hlisted
  obtain ⟨hi, hq'⟩ | ⟨hi, hq'⟩ | ⟨hi, hq'⟩ := hlisted
  · obtain ⟨data, rfl⟩ := eq_wrLockCmdRsvd_of_mnemonic hi
    obtain ⟨hmask, hpattern⟩ := unlock_row_data q hq hq'
    have hdata := wordData_of_hits hhits
    rw [hmask, hpattern, wordData_encode] at hdata
    have hwf' : data.extractLsb' 0 4 ≠ 0x1#4 := by simpa [Instr.wf] using hwf
    exact absurd (low4_eq_one hdata) hwf'
  · obtain ⟨w, rfl⟩ := eq_rdReserved_of_mnemonic hi
    exact reserved_hits_no_read_row w hwf q hq' hhits
  · obtain ⟨w, data, rfl⟩ := eq_wrIgnored_of_mnemonic hi
    have hhead := wordHead_of_hits hhits
    rw [wordHead_encode] at hhead
    exact ignored_hits_no_write_row w hwf q hq' hhead

/-- The rule of R75 finds the row of what a word decodes to. -/
theorem mostSpecific_mnemonic_of_decode {x : StimWord} {i : Instr} (h : decode x = .ok i) :
    (mostSpecific (matchingRows x)).map OpRow.mnemonic = some i.mnemonic := by
  obtain ⟨hx, hwf⟩ := encodeOfDecodeIsTheWord x i h
  obtain ⟨r, hrt, hmnemonic, hhits⟩ := encode_hits_row i hwf
  rw [hx] at hhits
  have hr : r ∈ matchingRows x := mem_matchingRows.mpr ⟨hrt, hhits⟩
  obtain ⟨hnone, -⟩ | ⟨m, hm, e, hmax⟩ := mostSpecific_spec (matchingRows x)
  · rw [hnone] at hr
    cases hr
  · rw [e, Option.map_some, Option.some_inj]
    obtain rfl | ⟨hlisted, -⟩ | ⟨-, hlt⟩ := matching_rows_overlap hr hm
    · exact hmnemonic
    · obtain ⟨hmt, hmhits⟩ := mem_matchingRows.mp hm
      exact mnemonic_of_listed_hit hwf hmnemonic hmt hlisted (hx ▸ hmhits)
    · exact absurd (hmax r hr) (by omega)

/-- Settles O10: a legal word's own row is the most specific of those it matches, an ILLEGAL word matches none, and the
overlaps are those of the table. -/
theorem decoderTakesTheMostSpecificRow : Obligations.DecoderTakesTheMostSpecificRow := by
  intro x
  refine ⟨?_, fun r hr q hq hspec => ?_, fun r hr q hq hspec => ?_⟩
  · cases h : decode x with
    | ok i => exact (mostSpecific_mnemonic_of_decode h).symm
    | error e => rw [matchingRows_of_illegal h]; rfl
  · obtain heq | ⟨-, hlt⟩ | ⟨-, hlt⟩ := matching_rows_overlap hr hq
    · exact heq
    · omega
    · omega
  · obtain rfl | ⟨hlisted, -⟩ | ⟨-, hlt⟩ := matching_rows_overlap hr hq
    · omega
    · exact hlisted
    · omega

end Sys2Proof.Machine
end

section
/-! O13: the edges of a frame, one step each (R81, R101). -/

namespace Sys2Proof.Machine

/-! ### One edge of a frame -/

theorem bitEdge_wf (c : Dir) (b : Bool) : (bitEdge c b).wf = true := by
  cases b <;> rfl

theorem bitEdge_not_busAccess (c : Dir) (b : Bool) : isBusAccess (bitEdge c b) = false := by
  cases b <;> rfl

theorem exec_bitEdge (c : Dir) (b : Bool) (s : State) : exec (bitEdge c b) s = .next (s.append c b) := by
  cases b <;> rfl

/-- The word of an edge appends its bit. -/
theorem step_of_edge {s : State} {c : Dir} {b : Bool} {rest : List Turn}
    (hs : s.schedule = .arrive (encode (bitEdge c b)) :: rest) :
    step s = .next (({ s with schedule := rest } : State).append c b) := by
  rw [step_of_arrive hs (decodeOfEncodeIsTheStimulus _ (bitEdge_wf c b)) (by rw [bitEdge_not_busAccess]; rfl), exec_bitEdge]

/-! ### The edges of a frame -/

/-- A channel after the `n` low bits of `v` have been shifted in, most significant first, the last with deadline `dl`. -/
def Capture.shiftIn (x : Capture) (n v : Nat) (dl : Time) : Capture where
  buf := BitVec.ofNat 64 (x.buf.toNat * 2 ^ n + v % 2 ^ n)
  cnt := BitVec.ofNat 8 (min 255 (x.cnt.toNat + n))
  dlv := if n = 0 then x.dlv else true
  dl := if n = 0 then x.dl else dl

theorem Capture.shiftIn_zero (x : Capture) (v : Nat) (dl : Time) : x.shiftIn 0 v dl = x := by
  have hcnt : min 255 x.cnt.toNat = x.cnt.toNat := by
    have := x.cnt.isLt
    omega
  simp [Capture.shiftIn, Nat.mod_one, hcnt]

/-- The first bit, then the others. -/
theorem Capture.shiftIn_succ (x : Capture) (n v : Nat) (dl : Time) :
    (x.shiftIn 1 (v.testBit n).toNat dl).shiftIn n v dl = x.shiftIn (n + 1) v dl := by
  have hbuf : (x.buf.toNat * 2 ^ 1 + (v.testBit n).toNat % 2 ^ 1) % 2 ^ 64 * 2 ^ n + v % 2 ^ n ≡
      x.buf.toNat * 2 ^ (n + 1) + v % 2 ^ (n + 1) [MOD 2 ^ 64] := by
    have hbit : (v.testBit n).toNat % 2 ^ 1 = (v.testBit n).toNat := Nat.mod_eq_of_lt (Bool.toNat_lt _)
    have htop : v % 2 ^ (n + 1) = v % 2 ^ n + 2 ^ n * (v.testBit n).toNat := by
      rw [Nat.mod_pow_succ, Nat.toNat_testBit]
    rw [hbit, htop]
    calc _ ≡ (x.buf.toNat * 2 ^ 1 + (v.testBit n).toNat) * 2 ^ n + v % 2 ^ n [MOD 2 ^ 64] :=
          ((Nat.mod_modEq _ _).mul_right _).add_right _
      _ = _ := by ring
  have hcnt : min 255 (min 255 (x.cnt.toNat + 1) % 2 ^ 8 + n) = min 255 (x.cnt.toNat + (n + 1)) := by omega
  simp only [Capture.shiftIn, BitVec.toNat_ofNat, hcnt, Capture.mk.injEq]
  refine ⟨BitVec.eq_of_toNat_eq ?_, trivial, by simp, by simp⟩
  rw [BitVec.toNat_ofNat, BitVec.toNat_ofNat]
  exact hbuf

theorem capture_ext {x y : Capture} (hbuf : x.buf = y.buf) (hcnt : x.cnt = y.cnt) (hdlv : x.dlv = y.dlv)
    (hdl : x.dl = y.dl) : x = y := by
  cases x
  cases y
  congr

/-- An append shifts one bit in (R101). -/
theorem append_eq_shiftIn (s : State) (c : Dir) (b : Bool) :
    s.append c b = s.setCh c ((s.ch.get c).shiftIn 1 b.toNat (s.after s.cfg.tBit)) := by
  rw [append_eq_setCh]
  congr 1
  refine capture_ext (BitVec.eq_of_toNat_eq ?_) (BitVec.eq_of_toNat_eq ?_) (append_dlv s c b) (append_dl s c b)
  · have hb := Bool.toNat_le b
    rw [append_buf_toNat, Capture.shiftIn, BitVec.toNat_ofNat]
    omega
  · rw [append_cnt_toNat, Capture.shiftIn, BitVec.toNat_ofNat]
    omega

@[simp] theorem perDir_set_get {α : Type} (p : PerDir α) (d : Dir) : p.set d (p.get d) = p := by
  cases d <;> rfl

@[simp] theorem perDir_set_set {α : Type} (p : PerDir α) (d : Dir) (x y : α) : (p.set d x).set d y = p.set d y := by
  cases d <;> rfl

/-- The edges of a frame, one step each, shift its bits in. -/
theorem run_frameEdges (c : Dir) (n v : Nat) (rest : List Turn) (s : State)
    (hs : s.schedule = (frameEdges c n v).map (fun i => .arrive (encode i)) ++ rest) :
    Host.Core.run Sys2Proof.core n s =
      .next ({ s with schedule := rest }.setCh c ((s.ch.get c).shiftIn n v (s.after s.cfg.tBit))) := by
  induction n generalizing s with
  | zero =>
    rw [run_zero, Capture.shiftIn_zero, ← show s.schedule = rest from hs]
    simp [State.setCh]
  | succ n ih =>
    rw [run_succ n (step_of_edge hs), ih _ rfl, append_eq_shiftIn]
    simp [State.setCh, State.after, Capture.shiftIn_succ]

/-- Settles O13: the run shifts the frame's bits into a channel that holds none, so the buffer is the frame and the count its
length. -/
theorem frameEdgesAssembleTheFrame : Obligations.FrameEdgesAssembleTheFrame := by
  intro s c n v rest hpos hlen hempty hs
  have hcnt : min 255 n = n := by omega
  have hne : n ≠ 0 := by omega
  rw [run_frameEdges c n v rest s hs, hempty]
  simp [Capture.shiftIn, Capture.empty, hcnt, hne, State.setCh, State.after]

end Sys2Proof.Machine
end

section
/-! O12, O14 to O20: a bit edge, the channel reset, what the channel reads return, READY and the frame decoder (R101 to R116). -/

namespace Sys2Proof.Machine

/-! ### The bit edge (R101 to R103) -/

/-- The buffer after an append: shifted left, with the bit in bit 0. -/
theorem append_buf (s : State) (c : Dir) (b : Bool) :
    ((s.append c b).ch.get c).buf = ((s.ch.get c).buf <<< 1) ||| (BitVec.ofBool b).setWidth 64 := by
  refine BitVec.eq_of_getLsbD_eq fun k hk => ?_
  simp only [append_eq, perDir_get_set_same, BitVec.getLsbD_concat, BitVec.getLsbD_extractLsb', BitVec.getLsbD_or,
    BitVec.getLsbD_shiftLeft, BitVec.getLsbD_setWidth, BitVec.getLsbD_ofBool]
  rcases Nat.eq_zero_or_pos k with rfl | hpos
  · simp
  · have hne : k ≠ 0 := by omega
    have hin : k - 1 < 63 := by omega
    simp [hne, hin, hk]

/-- An append, as its four fields. -/
theorem append_eq_fields (s : State) (c : Dir) (b : Bool) :
    s.append c b = s.setCh c
      { buf := ((s.ch.get c).buf <<< 1) ||| (BitVec.ofBool b).setWidth 64
        cnt := BitVec.ofNat 8 (min 255 ((s.ch.get c).cnt.toNat + 1))
        dlv := true
        dl := s.after s.cfg.tBit } := by
  rw [append_eq_setCh, ← append_buf, ← append_cnt_toNat s c b, BitVec.ofNat_toNat, BitVec.setWidth_eq]
  exact congrArg _ (capture_ext rfl rfl (append_dlv s c b) (append_dl s c b))

/-- Settles O12: both edges append, and a 0 put into bit 0 leaves the shifted buffer as it is. -/
theorem bitEdgeAppends : Obligations.BitEdgeAppends := by
  intro c s
  constructor
  · refine (exec_bitEdge c false s).trans ?_
    rw [append_eq_fields]
    simp [State.setCh, State.after]
  · refine (exec_bitEdge c true s).trans ?_
    rw [append_eq_fields]
    simp [State.setCh, State.after]

/-- The two edges of a channel are the edges of its two bits. -/
theorem exists_bitEdge_eq {edge : Instr} {c : Dir} (h : edge = .pinD0Fall c ∨ edge = .pinD1Fall c) :
    ∃ b, edge = bitEdge c b := by
  rcases h with rfl | rfl
  · exact ⟨false, rfl⟩
  · exact ⟨true, rfl⟩

/-! ### The frame decoder (R105, R114) -/

theorem decodeFrame_of_26 {cnt : BitCount} (h : cnt.toNat = 26) (buf : BitBuffer) :
    decodeFrame cnt buf = some ⟨buf.extractLsb' 17 8, buf.extractLsb' 1 16⟩ := by
  rw [BitVec.eq_of_toNat_eq (y := 26#8) h]
  rfl

theorem decodeFrame_of_ne_26 {cnt : BitCount} (h : cnt.toNat ≠ 26) (buf : BitBuffer) : decodeFrame cnt buf = none := by
  have hne : ¬(cnt == 26#8) = true := fun e => h (by rw [eq_of_beq e]; rfl)
  exact if_neg hne

/-- VALID, seven zeros, an 8-bit and a 16-bit field, as a number. -/
theorem validWord_eq (f : BitVec 8) (g : BitVec 16) :
    (1#1 ++ 0#7 ++ f ++ g : Word) = BitVec.ofNat 32 (2 ^ 31 + f.toNat * 2 ^ 16 + g.toNat) := by
  apply BitVec.eq_of_toNat_eq
  have hf := f.isLt
  have hg := g.isLt
  rw [BitVec.toNat_append, ← Nat.shiftLeft_add_eq_or_of_lt hg, BitVec.toNat_append, ← Nat.shiftLeft_add_eq_or_of_lt hf,
    BitVec.toNat_ofNat, Nat.shiftLeft_eq, Nat.shiftLeft_eq, show (1#1 ++ 0#7 : BitVec 8).toNat = 2 ^ 7 from rfl]
  omega

theorem chDecodeWord_of_26 {s : State} {c : Dir} (h : (s.ch.get c).cnt.toNat = 26) :
    chDecodeWord s c = BitVec.ofNat 32
      (2 ^ 31 + ((s.ch.get c).buf.toNat / 2 ^ 17 % 2 ^ 8) * 2 ^ 16 + (s.ch.get c).buf.toNat / 2 % 2 ^ 16) := by
  have hword : chDecodeWord s c = 1#1 ++ 0#7 ++ (s.ch.get c).buf.extractLsb' 17 8 ++ (s.ch.get c).buf.extractLsb' 1 16 := by
    rw [chDecodeWord, decodeFrame_of_26 h]
  rw [hword, validWord_eq, BitVec.extractLsb'_toNat, BitVec.extractLsb'_toNat, Nat.shiftRight_eq_div_pow,
    Nat.shiftRight_eq_div_pow, Nat.pow_one]

theorem chDecodeWord_of_ne_26 {s : State} {c : Dir} (h : (s.ch.get c).cnt.toNat ≠ 26) : chDecodeWord s c = 0#32 := by
  rw [chDecodeWord, decodeFrame_of_ne_26 h]

theorem exec_rdChDecode (c : Dir) (s : State) : exec (.rdChDecode c) s = .next (s.busReturn (chDecodeWord s c)) := rfl

/-- Settles O18: the read returns the decoder's word, which is a frame for a count of 26 and 0 for any other. -/
theorem decodeRegisterIsTheFrameDecoder : Obligations.DecodeRegisterIsTheFrameDecoder := by
  intro c s
  constructor
  · intro h
    rw [exec_rdChDecode, chDecodeWord_of_26 h]
    rfl
  · intro h
    rw [exec_rdChDecode, chDecodeWord_of_ne_26 h]
    rfl

/-- A CH_DECODE read that finds the bus free returns the decoder's word of the state it arrives in. -/
theorem step_of_rdChDecode {s : State} {c : Dir} {rest : List Turn} (hs : s.schedule = .arrive (encode (.rdChDecode c)) :: rest)
    (hbus : s.waiting.bus = []) :
    step s = .next (({ s with schedule := rest } : State).busReturn (chDecodeWord s c)) := by
  have hfree : (isBusAccess (.rdChDecode c) && busStalled s) = false := by
    rw [(busStalled_eq_false s).mpr hbus, Bool.and_false]
  rw [step_of_arrive hs (decodeOfEncodeIsTheStimulus _ rfl) hfree, exec_rdChDecode]
  rfl

/-- Settles O14: 26 steps leave the frame in the buffer and a count of 26 (O13), and the 27th reads them. -/
theorem capturedFrameDecodes : Obligations.CapturedFrameDecodes := by
  intro s c v rest hempty hbus hs
  have hframe := frameEdgesAssembleTheFrame s c 26 v _ (by decide) (by decide) hempty hs
  refine ⟨_, (run_add 26 1 hframe).trans (run_succ 0 (step_of_rdChDecode rfl hbus)), rfl, ?_⟩
  have hfacility : v % 2 ^ 26 / 2 ^ 17 % 2 ^ 8 = v / 2 ^ 17 % 2 ^ 8 := by omega
  have hcard : v % 2 ^ 26 / 2 % 2 ^ 16 = v / 2 % 2 ^ 16 := by omega
  have hbuf : (BitVec.ofNat 64 (v % 2 ^ 26)).toNat = v % 2 ^ 26 := by
    rw [BitVec.toNat_ofNat]
    omega
  rw [busReturn_busOut, chDecodeWord_of_26 (by rw [perDir_get_set_same]; rfl), perDir_get_set_same, hbuf, hfacility, hcard]

/-! ### The channel state reads (R108 to R113) -/

theorem lenOk_iff (s : State) (c : Dir) : lenOk s c = true ↔ (s.ch.get c).cnt.toNat = 26 := by
  rw [lenOk, beq_iff_eq, ← BitVec.toNat_inj]
  rfl

/-- Three flags in bits 2 to 0, as a number. -/
theorem threeFlags_eq (x y z : Bool) :
    (bit1 x ++ bit1 y ++ bit1 z).setWidth 32 =
      BitVec.ofNat 32 ((if x = true then 4 else 0) + (if y = true then 2 else 0) + (if z = true then 1 else 0)) := by
  revert x y z
  decide

theorem chStatusWord_eq (s : State) (c : Dir) :
    chStatusWord s c = BitVec.ofNat 32
      ((if (s.ch.get c).cnt.toNat = 26 then 4 else 0)
        + (if (s.ch.get c).dlv = true ∧ (s.ch.get c).dl.toNat < s.now.toNat then 2 else 0)
        + (if (s.ch.get c).dlv = true then 1 else 0)) := by
  rw [chStatusWord, threeFlags_eq]
  simp only [lenOk_iff, ready_iff]

theorem chCountWord_eq (s : State) (c : Dir) : chCountWord s c = BitVec.ofNat 32 (s.ch.get c).cnt.toNat :=
  (BitVec.ofNat_toNat 32 _).symm

/-- Settles O17: each read returns its word, written as a number. -/
theorem channelReadsReturnTheirFields : Obligations.ChannelReadsReturnTheirFields := by
  intro c s
  simp only [← chStatusWord_eq, ← chCountWord_eq, ← loWord_eq, ← hiWord_eq]
  exact ⟨rfl, rfl, rfl, rfl, rfl, rfl⟩

/-! ### READY (R104) -/

/-- A channel as an edge left it is ready once `now` is later than the instant of the edge plus `T_BIT`. -/
theorem ready_iff_of_append {s u : State} {c : Dir} {b : Bool} (hcfg : badParams s.cfg = []) (htime : s.now.toNat ≤ 2 ^ 63)
    (hch : u.ch.get c = (s.append c b).ch.get c) : ready u c = true ↔ s.now.toNat + s.cfg.tBit < u.now.toNat := by
  have hdl : (s.after s.cfg.tBit).toNat = s.now.toNat + s.cfg.tBit :=
    add_duration_toNat htime (durationOf_in_range hcfg .tBit).2
  rw [ready_iff, hch, append_dlv, append_dl, hdl]
  exact and_iff_right rfl

/-- Settles O19: both edges append, and the deadline they set does not overflow. -/
theorem readyOneMillisecondAfterTheTimeout : Obligations.ReadyOneMillisecondAfterTheTimeout := by
  intro s t u c hcfg htime hedge hch
  rcases hedge with h | h
  · cases h
    exact ready_iff_of_append hcfg htime hch
  · cases h
    exact ready_iff_of_append hcfg htime hch

/-! ### The channel reset and the races with it (R106, R116) -/

theorem exec_wrChReset (c : Dir) (data : Word) (s : State) : exec (.wrChReset c data) s = .next (s.emptyChannel c) := rfl

/-- A reset forgets what was last written to its channel. -/
theorem emptyChannel_setCh (s : State) (c : Dir) (x : Capture) : (s.setCh c x).emptyChannel c = s.emptyChannel c := by
  simp [State.emptyChannel, State.setCh]

theorem emptyChannel_emptyChannel (s : State) (c : Dir) : (s.emptyChannel c).emptyChannel c = s.emptyChannel c :=
  emptyChannel_setCh s c Capture.empty

theorem emptyChannel_append (s : State) (c : Dir) (b : Bool) : (s.append c b).emptyChannel c = s.emptyChannel c := by
  rw [append_eq_setCh, emptyChannel_setCh]

theorem not_ready_emptyChannel (s : State) (c : Dir) : ready (s.emptyChannel c) c = false := by
  simp [ready, expired, State.emptyChannel, Capture.empty]

/-- Settles O15: the reset writes the empty channel, which has no deadline to pass and is what a second one writes. -/
theorem channelResetEmptiesTheChannel : Obligations.ChannelResetEmptiesTheChannel := by
  intro c data s
  refine ⟨s.emptyChannel c, exec_wrChReset c data s, rfl, not_ready_emptyChannel s c, ?_⟩
  rw [exec_wrChReset, emptyChannel_emptyChannel]

/-- Settles O20: a 27th bit makes the frame unsupported, a reset forgets an edge before it, and an edge after it counts from 0. -/
theorem edgeRacesHaveTheListedOutcomes : Obligations.EdgeRacesHaveTheListedOutcomes := by
  intro s t c data edge hedge ht
  obtain ⟨b, rfl⟩ := exists_bitEdge_eq hedge
  rw [exec_bitEdge] at ht
  cases ht
  refine ⟨fun hcnt => ?_, ?_, fun u hu => ?_⟩
  · have hne : ((s.append c b).ch.get c).cnt.toNat ≠ 26 := by
      rw [append_cnt_toNat, hcnt]
      decide
    rw [exec_rdChDecode, chDecodeWord_of_ne_26 hne]
    rfl
  · rw [exec_wrChReset, exec_wrChReset, emptyChannel_append]
  · cases hu
    refine ⟨_, exec_bitEdge c b _, BitVec.eq_of_toNat_eq ?_⟩
    rw [append_cnt_toNat, State.emptyChannel, setCh_get_same]
    rfl

/-! ### Writes without effect (R107, R198) -/

theorem exec_wrChCtrlNop (c : Dir) (data : Word) (s : State) : exec (.wrChCtrlNop c data) s = .next s := rfl

theorem exec_wrIgnored (w : WordIdx) (data : Word) (s : State) : exec (.wrIgnored w data) s = .next s := rfl

/-- The words with a write row of their own are CH_CTRL, EVT_FLAGS and LOCK_CMD. -/
theorem writeIgnored_or_row (w : WordIdx) :
    writeIgnored w = true ∨ (∃ c, w = regWord (.chCtrl c)) ∨ w = 0x10#6 ∨ w = 0x12#6 := by
  cases hw : writeIgnored w with
  | true => exact .inl rfl
  | false =>
    simp only [writeIgnored, Bool.not_eq_false', Bool.or_eq_true, beq_iff_eq] at hw
    rcases hw with ((rfl | rfl) | rfl) | rfl
    · exact .inr (.inl ⟨.entry, rfl⟩)
    · exact .inr (.inl ⟨.exit, rfl⟩)
    · exact .inr (.inr (.inl rfl))
    · exact .inr (.inr (.inr rfl))

theorem chCtrl_word (c : Dir) : (regWord (.chCtrl c)).toNat = 0x07 ∨ (regWord (.chCtrl c)).toNat = 0x0F := by
  cases c
  · exact .inl rfl
  · exact .inr rfl

/-- Settles O16: a write to CH_CTRL with DATA[0] = 0 is WR_CH_CTRL_NOP, and one to a word without a write row is WR_IGNORED. -/
theorem ineffectiveWritesChangeNothing : Obligations.IneffectiveWritesChangeNothing := by
  refine ⟨exec_wrChCtrlNop, exec_wrIgnored, fun w data h10 h12 hctrl s => ?_⟩
  rcases writeIgnored_or_row w with hw | ⟨c, rfl⟩ | rfl | rfl
  · rw [decodeWrite_ignored hw, exec_wrIgnored]
  · rw [decodeWrite_chCtrl, hctrl (chCtrl_word c)]
    exact exec_wrChCtrlNop c data s
  · exact absurd rfl h10
  · exact absurd rfl h12

end Sys2Proof.Machine
end

section
/-! O54, O34: the doors of reachable states. O23 to O25: the door edge and the lock commands. -/

namespace Sys2Proof.Machine

/-- Settles O54: mutual exclusion is part of the invariant, which every reachable state has. -/
theorem neverBothDoorsOpen : Obligations.NeverBothDoorsOpen := fun _ h => h.blockInv.exclusive

/-- Settles O34: a locked-open candidate needs both locks not open, and each re-lock candidate an open lock. -/
theorem candidatesExcludeEachOther : Obligations.CandidatesExcludeEachOther := by
  refine fun s d e h => ⟨fun ⟨hd, he⟩ => ?_, fun ⟨hentry, hexit⟩ => ?_⟩
  · obtain ⟨hlocked, hopp⟩ := lockedOpenCand_locks hd
    have hclosed : ∀ c, (s.lk.get c).isOpen = false := forall_dir_of_opp d hlocked hopp
    exact absurd (relockCand_lock he) (Bool.eq_false_iff.mp (hclosed e))
  · exact h.exclusive ⟨relockCand_lock hentry, relockCand_lock hexit⟩

/-! ### The door edge and the lock commands (R141, R146, R147) -/

theorem exec_pinDoorEdge (s : State) : exec .pinDoorEdge s = .next { s with door := !s.door, doorTrig := true } := rfl

/-- Settles O23: the second edge negates the level again and leaves the trigger set. -/
theorem doorEdgeTogglesAndTriggers : Obligations.DoorEdgeTogglesAndTriggers :=
  fun s => ⟨_, exec_pinDoorEdge s, rfl, _, exec_pinDoorEdge _, by simp⟩

theorem exec_wrLockCmdRsvd (data : Word) (s : State) : exec (.wrLockCmdRsvd data) s = .next { s with evtBad := true } := rfl

/-- CMD as a number. -/
theorem lockCmd_toNat (data : Word) : (data.extractLsb' 0 4).toNat = data.toNat % 16 := by
  simp [BitVec.extractLsb'_toNat]

/-- Settles O25: a write to LOCK_CMD is WR_LOCK_UNLOCK only if its CMD is 1. -/
theorem reservedLockCommandsSetBadCmd : Obligations.ReservedLockCommandsSetBadCmd := by
  refine fun data s => ⟨fun hcmd => ?_, exec_wrLockCmdRsvd data s⟩
  have hne : data.extractLsb' 0 4 ≠ 0x1#4 := fun h => hcmd (by rw [← lockCmd_toNat, h]; rfl)
  rw [decodeWrite_lockCmd, if_neg (by simpa using hne)]

theorem lockCmdDir_eq (data : Word) : lockCmdDir data = if data.getLsbD 8 then .exit else .entry := by
  unfold lockCmdDir
  cases data.getLsbD 8 <;> rfl

/-- Settles O24, clause by clause: the answer depends on the hold and on the interlock alone. -/
theorem unlockRequestStartsOrIsRejected : Obligations.UnlockRequestStartsOrIsRejected := by
  rintro data s d rfl
  rw [← lockCmdDir_eq]
  have hidle := unlockHeld_eq_false s
  obtain ⟨hheld, e⟩ | ⟨hfree, hlock, e⟩ | ⟨hfree, hlock, e⟩ := execWrLockUnlock_cases data s
  · have hbusy : s.seq.phase ≠ .idle := fun h => by simp [hidle.mpr h] at hheld
    exact ⟨fun h => absurd h hbusy, fun h => absurd h hbusy, fun _ => e⟩
  · rw [interlockOk_eq, Bool.not_eq_true'] at hlock
    exact ⟨fun _ _ => e, fun _ h => by simp [hlock] at h, fun h => absurd (hidle.mp hfree) h⟩
  · rw [interlockOk_eq, Bool.not_eq_false'] at hlock
    exact ⟨fun _ h => by simp [hlock] at h, fun _ _ => e, fun h => absurd (hidle.mp hfree) h⟩

end Sys2Proof.Machine
end

section
/-! O26 to O29: what an enabled SEQ_ADVANCE does at the end of each phase (R151 to R156, R163). -/

namespace Sys2Proof.Machine

/-- SEQ_ADVANCE is enabled from the end of a running phase on. -/
theorem exec_seqAdvance_of_due {s : State} (hbusy : s.seq.phase ≠ .idle) (hend : s.seq.endAt.toNat ≤ s.now.toNat) :
    exec .seqAdvance s = .next s.advanceSeq := by
  obtain ⟨hheld, -⟩ | ⟨-, e⟩ := execSeqAdvance_cases s
  · simp [(seqAdvanceHeld_eq_false s).mpr ⟨hbusy, hend⟩] at hheld
  · exact e

/-- The drive phase of a kind with a hold time is followed by its hold phase. -/
theorem advanceSeq_of_drive {s : State} (hdrive : s.seq.phase = .drive) (hhold : 0 < holdTime s.cfg s.seq.kind) :
    s.advanceSeq = s.setSeq { s.seq with phase := .hold, endAt := s.after (holdTime s.cfg s.seq.kind) } := by
  obtain ⟨-, -, e⟩ | ⟨hlast, -⟩ := advanceSeq_cases s
  · exact e
  · exact absurd ⟨hdrive, hhold⟩ hlast

theorem holdTime_eq (g : Config) (k : Kind) : holdTime g k = if k = .relock then g.tHoldClose else g.tHoldOpen := by
  cases k <;> rfl

/-- Settles O26: at its end a drive phase with a hold time is followed by the hold phase, of that time. -/
theorem drivePhaseIsFollowedByHold : Obligations.DrivePhaseIsFollowedByHold := by
  rintro s hold rfl hdrive hend hpos
  rw [← holdTime_eq] at hpos ⊢
  rw [exec_seqAdvance_of_due (by simp [hdrive]) hend, advanceSeq_of_drive hdrive hpos]
  rfl

/-- The iteration end writes `evalHold`, if a direction is `LockedOpen` (R163). -/
theorem iterationEnd_eq (s : State) :
    s.iterationEnd = { s with
      evalHold := if s.lk.entry.lo = true ∨ s.lk.exit.lo = true then s.now + BitVec.ofNat 64 s.cfg.pollDelay
        else s.evalHold } := by
  obtain ⟨hlo, e⟩ | ⟨hentry, hexit, e⟩ := iterationEnd_cases s
  · rw [e, if_pos hlo]
    rfl
  · rw [e, if_neg (by simp [hentry, hexit])]

/-- What holds of one of the two directions holds of `d` or of the other one. -/
theorem entry_or_exit_iff (p : Dir → Prop) (d : Dir) : (p .entry ∨ p .exit) ↔ (p d ∨ p (opp d)) := by
  cases d
  · exact Iff.rfl
  · exact or_comm

theorem commit_lo (s : State) (k : Kind) (d : Dir) :
    ((s.commit k d).lk.get d).lo = true ↔ k = .unlockLockedOpen := by
  obtain ⟨rfl, e⟩ | ⟨rfl, e⟩ | ⟨rfl, e⟩ := commit_cases s k d <;> rw [e] <;> simp

/-- The last phase of a sequence: HOLD, or DRIVE if its kind has no hold time (R151). -/
def InLastPhase (s : State) : Prop :=
  s.seq.phase = .hold ∨ (s.seq.phase = .drive ∧ holdTime s.cfg s.seq.kind = 0)

theorem InLastPhase.busy {s : State} (h : InLastPhase s) : s.seq.phase ≠ .idle := by
  obtain h | ⟨h, -⟩ := h <;> simp [h]

/-- The end of the last phase commits, goes IDLE, and slows the polling if a direction is `LockedOpen` then. -/
theorem advanceSeq_of_lastPhase {s : State} (h : InLastPhase s) :
    s.advanceSeq = { s.commit s.seq.kind s.seq.dir with
      seq := { phase := .idle, dir := s.seq.dir, kind := s.seq.kind, endAt := 0#64 }
      evalHold := if s.seq.kind = .unlockLockedOpen ∨ (s.lk.get (opp s.seq.dir)).lo = true
        then s.now + BitVec.ofNat 64 s.cfg.pollDelay else s.evalHold } := by
  obtain ⟨hdrive, hpos, -⟩ | ⟨-, e⟩ := advanceSeq_cases s
  · obtain h | ⟨-, h⟩ := h
    · simp [h] at hdrive
    · omega
  · have hlo := entry_or_exit_iff (fun d => ((s.commit s.seq.kind s.seq.dir).lk.get d).lo = true) s.seq.dir
    simp only [perDir_get_entry, perDir_get_exit, commit_lo, commit_lk_opp] at hlo
    rw [e, iterationEnd_eq]
    simp [State.setSeq, hlo]

/-- The meaning of SEQ_ADVANCE at the end of the last phase of a sequence of kind `k` in direction `d`. -/
theorem exec_seqAdvance_commits {s : State} {k : Kind} {d : Dir} (hdir : s.seq.dir = d) (hkind : s.seq.kind = k)
    (hend : s.seq.endAt.toNat ≤ s.now.toNat)
    (hlast : s.seq.phase = .hold ∨ (s.seq.phase = .drive ∧ holdTime s.cfg k = 0)) :
    exec .seqAdvance s = .next { s.commit k d with
      seq := { phase := .idle, dir := d, kind := k, endAt := 0#64 }
      evalHold := if k = .unlockLockedOpen ∨ (s.lk.get (opp d)).lo = true
        then s.now + BitVec.ofNat 64 s.cfg.pollDelay else s.evalHold } := by
  subst hdir hkind
  rw [exec_seqAdvance_of_due (InLastPhase.busy hlast) hend, advanceSeq_of_lastPhase hlast]

/-- Settles O27: the commit of UNLOCK_PERMIT; the committed direction is not `LockedOpen`, so the polling is the other's matter. -/
theorem unlockPermitCommits : Obligations.UnlockPermitCommits := by
  intro s d hdir hkind hend hlast
  rw [exec_seqAdvance_commits hdir hkind hend hlast]
  simp [State.commit, State.commitUnlockPermit, State.setLk, State.after]

/-- Settles O28: the commit of UNLOCK_LOCKEDOPEN; the committed direction is `LockedOpen`, so the polling is slowed. -/
theorem lockedOpenCommits : Obligations.LockedOpenCommits := by
  intro s d hdir hkind hend hlast
  rw [exec_seqAdvance_commits hdir hkind hend hlast]
  simp [State.commit, State.commitUnlockLockedOpen, State.setLk, State.after]

/-- Settles O29: the commit asks whether the direction was `LockedOpen`, the statement whether it was not. -/
theorem relockCommits : Obligations.RelockCommits := by
  intro s d hdir hkind hend hlast
  rw [exec_seqAdvance_commits hdir hkind hend hlast]
  cases hlo : (s.lk.get d).lo <;> simp [State.commit, State.commitRelock, State.setLk, hlo]

end Sys2Proof.Machine
end

section
/-! O30 to O32: the evaluation (R157 to R163, R170). -/

namespace Sys2Proof.Machine

/-! ### Swing (R158) -/

/-- Swing of one lock raises the deadline of an `Unlocked` one to at least `t`. -/
theorem swingLock_eq (t : Time) (l : Lock) :
    swingLock t l = { l with
      cd := if l.isOpen = true ∧ l.lo = false then BitVec.ofNat 64 (max l.cd.toNat t.toNat) else l.cd } := by
  obtain ⟨hopen, hlo, hlt, e⟩ | ⟨hno, e⟩ := swingLock_cases t l <;> rw [e]
  · rw [if_pos ⟨hopen, hlo⟩, max_eq_right hlt.le, BitVec.ofNat_toNat, BitVec.setWidth_eq]
  · split
    · next h =>
      have hle : t.toNat ≤ l.cd.toNat := Nat.le_of_not_lt fun hlt => hno ⟨h.1, h.2, hlt⟩
      rw [max_eq_left hle, BitVec.ofNat_toNat, BitVec.setWidth_eq]
    · rfl

theorem le_swingLock_cd (t : Time) (l : Lock) : l.cd.toNat ≤ (swingLock t l).cd.toNat := by
  obtain ⟨-, -, hlt, e⟩ | ⟨-, e⟩ := swingLock_cases t l <;> rw [e]
  exact hlt.le

/-- An `Unlocked` lock's deadline is at least `t` after its swing. -/
theorem swingLock_cd_ge {l : Lock} (t : Time) (hopen : l.isOpen = true) (hlo : l.lo = false) :
    t.toNat ≤ (swingLock t l).cd.toNat := by
  obtain ⟨-, -, -, e⟩ | ⟨hno, e⟩ := swingLock_cases t l <;> rw [e]
  exact Nat.le_of_not_lt fun hlt => hno ⟨hopen, hlo, hlt⟩

theorem swing_cd_le (s : State) (d : Dir) : (s.lk.get d).cd.toNat ≤ (s.swing.lk.get d).cd.toNat := by
  rw [swing_lk_get]
  split
  · exact le_swingLock_cd ..
  · exact le_rfl

/-- Settles O31: a held EVAL writes no lock, and an enabled one writes the locks as swing does. -/
theorem swingNeverShortens : Obligations.SwingNeverShortens := by
  intro s t d h
  obtain ⟨-, e⟩ | ⟨-, e⟩ := execEval_cases s <;> cases e.symm.trans h
  · exact le_rfl
  · rw [evaluate_lk]
    exact swing_cd_le s d

/-- `now + DOOR_SWING_TIMEOUT` does not overflow. -/
theorem swingTime_toNat {s : State} (hcfg : badParams s.cfg = []) (htime : s.now.toNat ≤ 2 ^ 63) :
    (s.after s.cfg.doorSwingTimeout).toNat = s.now.toNat + s.cfg.doorSwingTimeout :=
  add_duration_toNat htime (durationOf_in_range hcfg .doorSwingTimeout).2

theorem sensorOpen_swing (s : State) : sensorOpen s.swing = sensorOpen s := by
  simp [sensorOpen]

/-- With the trigger set, swing leaves no `Unlocked` direction with a deadline that has passed. -/
theorem not_relockDue_swing {s : State} {d : Dir} (hcfg : badParams s.cfg = []) (htime : s.now.toNat ≤ 2 ^ 63)
    (htrig : s.doorTrig = true) (hopen : (s.lk.get d).isOpen = true) (hlo : (s.lk.get d).lo = false) :
    ¬RelockDue s.swing d := by
  intro h
  have hpassed := h.deadline_passed
  have hge := swingLock_cd_ge (s.after s.cfg.doorSwingTimeout) hopen hlo
  rw [swing_now, swing_lk_get, if_pos htrig] at hpassed
  rw [swingTime_toNat hcfg htime] at hge
  omega

/-- Settles O32: a re-lock that EVAL starts was due after swing. -/
theorem pendingDoorEdgeKeepsTheDoorUnlocked : Obligations.PendingDoorEdgeKeepsTheDoorUnlocked := by
  rintro s t d hcfg htime htrig hidle hopen hlo h ⟨hdrive, hkind, hdir⟩
  obtain ⟨-, e⟩ | ⟨-, e⟩ := execEval_cases s <;> cases e.symm.trans h
  · simp [hidle] at hdrive
  unfold State.evaluate at hdrive hkind hdir
  obtain ⟨k, c, hchoice, e⟩ | ⟨-, e⟩ := evalAct_cases s.swing (sensorOpen s) <;> rw [e] at hdrive hkind hdir
  · obtain ⟨rfl, rfl⟩ : k = .relock ∧ c = d := ⟨hkind, hdir⟩
    obtain ⟨hne, -⟩ | ⟨-, hcand⟩ := evalChoice_eq_some hchoice
    · cases hne
    · rw [← sensorOpen_swing, relockCand_iff] at hcand
      exact not_relockDue_swing hcfg htime htrig hopen hlo hcand
  · simp [hidle] at hdrive

/-! ### The candidates after swing (R161, R162) -/

/-- The state after swing, known by its locks. -/
theorem swing_eq {s u : State} (hcfg : badParams s.cfg = []) (htime : s.now.toNat ≤ 2 ^ 63)
    (hframe : u = { s with lk := u.lk, doorTrig := false })
    (hlk : ∀ d, u.lk.get d = { s.lk.get d with
      cd := if s.doorTrig = true ∧ (s.lk.get d).isOpen = true ∧ (s.lk.get d).lo = false
        then BitVec.ofNat 64 (max (s.lk.get d).cd.toNat (s.now.toNat + s.cfg.doorSwingTimeout))
        else (s.lk.get d).cd }) :
    s.swing = u := by
  have hlocks : s.swing.lk = u.lk := perDir_ext fun d => by
    rw [hlk d, swing_lk_get, swingLock_eq, swingTime_toNat hcfg htime]
    cases s.doorTrig <;> simp
  rw [swing_frame, hlocks, ← hframe]

theorem exec_eval_of_enabled {s : State} (hidle : s.seq.phase = .idle) (hhold : s.evalHold.toNat ≤ s.now.toNat) :
    exec .eval s = .next (s.swing.evalAct (sensorOpen s.swing)) := by
  obtain ⟨hheld, -⟩ | ⟨-, e⟩ := execEval_cases s
  · simp [(evalHeld_eq_false s).mpr ⟨hidle, hhold⟩] at hheld
  · rw [sensorOpen_swing]
    exact e

theorem evalAct_of_choice {s : State} {smp : Bool} {k : Kind} {d : Dir} (h : evalChoice s smp = some (k, d)) :
    s.evalAct smp = s.startSeq k d := by
  simp [State.evalAct, h]

theorem evalAct_of_none {s : State} {smp : Bool} (h : evalChoice s smp = none) : s.evalAct smp = s.iterationEnd := by
  simp [State.evalAct, h]

/-- Settles O30: the state after swing is `u`, and the four conditions are `u`'s candidates, in the order of the choice. -/
theorem evalSwingsThenStartsTheFirstCandidate : Obligations.EvalSwingsThenStartsTheFirstCandidate := by
  intro s u hcfg htime hidle hhold hframe hlk
  have hswing := swing_eq hcfg htime hframe hlk
  have hnow : s.now = u.now := by rw [← hswing, swing_now]
  have hucfg : s.cfg = u.cfg := by rw [← hswing, swing_cfg]
  have hevalHold : s.evalHold = u.evalHold := by rw [← hswing, swing_evalHold]
  have hlo : ∀ d, (s.lk.get d).lo = (u.lk.get d).lo := fun d => by rw [hlk d]
  rw [exec_eval_of_enabled hidle hhold, hswing]
  simp only [← lockedOpenCand_iff (hucfg ▸ hcfg), ← relockCand_iff]
  rw [hnow, hucfg, hevalHold, ← perDir_get_entry s.lk, ← perDir_get_exit s.lk, hlo, hlo]
  refine ⟨fun hopenEntry => ?_, fun hopenEntry hopenExit => ?_, fun hopenEntry hopenExit hlockEntry => ?_,
    fun hopenEntry hopenExit hlockEntry hlockExit => ?_, fun hopenEntry hopenExit hlockEntry hlockExit => ?_⟩
  · rw [evalAct_of_choice (k := .unlockLockedOpen) (d := .entry) (by simp [evalChoice, hopenEntry])]
    rfl
  · rw [evalAct_of_choice (k := .unlockLockedOpen) (d := .exit) (by simp [evalChoice, hopenEntry, hopenExit])]
    rfl
  · rw [evalAct_of_choice (k := .relock) (d := .entry) (by simp [evalChoice, hopenEntry, hopenExit, hlockEntry])]
    rfl
  · rw [evalAct_of_choice (k := .relock) (d := .exit) (by simp [evalChoice, hopenEntry, hopenExit, hlockEntry, hlockExit])]
    rfl
  · rw [evalAct_of_none (by simp [evalChoice, hopenEntry, hopenExit, hlockEntry, hlockExit]), iterationEnd_eq]
    rfl

end Sys2Proof.Machine
end

section
/-! O38: the waveform of a sequence that its TICKs and SEQ_ADVANCEs run alone (R20, R144, R151, R152). -/

namespace Sys2Proof.Machine

/-! ### The actuator levels of a sequence (R20) -/

/-- The actuator of the direction that the sequence does not have is OFF. -/
theorem act_opp (s : State) : act s (opp s.seq.dir) = .off := if_neg (opp_ne _).symm

theorem act_of_idle {s : State} (h : s.seq.phase = .idle) (d : Dir) : act s d = .off := by
  simp [act, h]

theorem act_of_hold {s : State} (h : s.seq.phase = .hold) : act s s.seq.dir = .hold := by
  simp [act, h]

theorem act_of_drive {s : State} (h : s.seq.phase = .drive) :
    act s s.seq.dir = if s.seq.kind = .relock then .driveClosed else .driveOpen := by
  cases hkind : s.seq.kind <;> simp [act, h, driveLevel, hkind]

/-! ### The TICKs of a phase (R190, R191) -/

theorem toNat_add_of_le {now : Time} {n : Nat} (h : now.toNat + n ≤ 2 ^ 63) :
    (now + BitVec.ofNat 64 n).toNat = now.toNat + n := by
  rw [BitVec.toNat_add, BitVec.toNat_ofNat]
  omega

/-- Before the end of a running phase no internal step is pending. -/
theorem internalPending_of_running {s : State} (hbusy : s.seq.phase ≠ .idle) (hend : s.now.toNat < s.seq.endAt.toNat) :
    internalPending s = false := by
  have hseq : seqAdvanceHeld s = true := by
    rw [← Bool.not_eq_false, seqAdvanceHeld_eq_false]
    exact fun h => absurd h.2 (Nat.not_le_of_lt hend)
  have heval : evalHeld s = true := by
    rw [← Bool.not_eq_false, evalHeld_eq_false]
    exact fun h => hbusy h.1
  simp [internalPending, evalProductive, hseq, heval]

theorem decode_tick : decode 0x300000000000#48 = .ok .tick := by decide

theorem decode_seqAdvance : decode 0x800100000000#48 = .ok .seqAdvance := by decide

/-- The turns of `n` TICKs. -/
def ticks (n : Nat) : List Turn := List.replicate n (.arrive 0x300000000000#48)

/-- `s` after `n` TICKs that all took effect, with the turns `later` still to come. -/
def State.ticked (s : State) (n : Nat) (later : List Turn) : State :=
  { s with now := s.now + BitVec.ofNat 64 n, schedule := later }

/-- Before the end of a running phase a TICK takes effect. -/
theorem step_of_tick {s : State} {later : List Turn} (hs : s.schedule = .arrive 0x300000000000#48 :: later)
    (hbusy : s.seq.phase ≠ .idle) (hend : s.now.toNat < s.seq.endAt.toNat) (htime : s.now.toNat < 2 ^ 63) :
    step s = .next (s.ticked 1 later) := by
  rw [step_of_arrive hs decode_tick rfl]
  obtain ⟨hover, -⟩ | ⟨-, hpending, -⟩ | ⟨-, -, e⟩ := execTick_cases { s with schedule := later }
  · simp [(timeOver_eq_false { s with schedule := later }).mpr htime] at hover
  · rw [internalPending_of_running (s := { s with schedule := later }) hbusy hend] at hpending
    cases hpending
  · exact e

/-- The TICKs up to the end of a running phase all take effect. -/
theorem run_ticks {s : State} {later : List Turn} (n : Nat) (hs : s.schedule = ticks n ++ later)
    (hbusy : s.seq.phase ≠ .idle) (hend : s.now.toNat + n ≤ s.seq.endAt.toNat) (htime : s.now.toNat + n ≤ 2 ^ 63) :
    Host.Core.run Sys2Proof.core n s = .next (s.ticked n later) := by
  induction n generalizing s with
  | zero =>
    rw [run_zero, State.ticked, ← show s.schedule = later from hs]
    simp
  | succ n ih =>
    have hnow : (s.now + 1#64).toNat = s.now.toNat + 1 := now_add_one_toNat (by omega)
    have hstep := step_of_tick (later := ticks n ++ later) hs hbusy (by omega) (by omega)
    have hrest := ih (s := s.ticked 1 (ticks n ++ later)) rfl hbusy
      (by simp only [State.ticked, hnow]; omega) (by simp only [State.ticked, hnow]; omega)
    rw [run_succ n hstep, hrest]
    simp only [State.ticked, BitVec.add_assoc, BitVec.ofNat_add_ofNat, Nat.add_comm 1 n]

/-- A phase of `T` ms that starts now, with its TICKs and its SEQ_ADVANCE to come, and then the turns `later`. -/
structure PhaseStarts (s : State) (T : Nat) (later : List Turn) : Prop where
  busy : s.seq.phase ≠ .idle
  end_at : s.seq.endAt = s.now + BitVec.ofNat 64 T
  time_bound : s.now.toNat + T ≤ 2 ^ 63
  turns : s.schedule = ticks T ++ .arrive 0x800100000000#48 :: later

section
variable {s : State} {T : Nat} {later : List Turn}

/-- Part of the way through a phase, `n` of its TICKs have taken effect and the others are still to come. -/
theorem PhaseStarts.run (h : PhaseStarts s T later) {n : Nat} (hn : n ≤ T) :
    Host.Core.run Sys2Proof.core n s = .next (s.ticked n (ticks (T - n) ++ .arrive 0x800100000000#48 :: later)) := by
  have htime := h.time_bound
  refine run_ticks n ?_ h.busy ?_ (by omega)
  · rw [h.turns, ← List.append_assoc, ticks, ticks, ticks, List.replicate_append_replicate, Nat.add_sub_cancel' hn]
  · rw [h.end_at, toNat_add_of_le htime]
    omega

/-- The SEQ_ADVANCE after the TICKs of a phase takes effect (R151). -/
theorem PhaseStarts.run_advance (h : PhaseStarts s T later) :
    Host.Core.run Sys2Proof.core (T + 1) s = .next (s.ticked T later).advanceSeq := by
  have hticks := h.run le_rfl
  rw [Nat.sub_self] at hticks
  have hend : (s.ticked T later).seq.endAt.toNat ≤ (s.ticked T later).now.toNat := by
    rw [State.ticked, h.end_at]
  have hstep : step (s.ticked T (.arrive 0x800100000000#48 :: later)) = .next (s.ticked T later).advanceSeq :=
    (step_of_arrive rfl decode_seqAdvance rfl).trans (exec_seqAdvance_of_due h.busy hend)
  exact (run_add T 1 hticks).trans (run_succ 0 hstep)

/-- What a sequence leaves `T` ms after `s`: both actuators OFF, and the lock of its direction open after an unlock kind only. -/
structure Completed (s t : State) (T : Nat) (later : List Turn) : Prop where
  time : t.now.toNat = s.now.toNat + T
  actuators_off : ∀ d, act t d = .off
  is_idle : t.seq.phase = .idle
  lock_open : (t.lk.get s.seq.dir).isOpen = true ↔ s.seq.kind ≠ .relock
  turns : t.schedule = later

/-- The end of the last phase completes the sequence. -/
theorem PhaseStarts.completed (h : PhaseStarts s T later) (hlast : InLastPhase s) :
    ∃ t, Host.Core.run Sys2Proof.core (T + 1) s = .next t ∧ Completed s t T later := by
  refine ⟨_, h.run_advance, ?_⟩
  rw [advanceSeq_of_lastPhase (s := s.ticked T later) hlast]
  exact ⟨by rw [commit_now]; exact toNat_add_of_le h.time_bound, act_of_idle rfl, rfl, commit_isOpen .., commit_schedule ..⟩

/-- The end of the drive phase starts the hold phase. -/
theorem PhaseStarts.hold (h : PhaseStarts s T (ticks (holdTime s.cfg s.seq.kind) ++ .arrive 0x800100000000#48 :: later))
    (hdrive : s.seq.phase = .drive) (hpos : 0 < holdTime s.cfg s.seq.kind)
    (htime : s.now.toNat + T + holdTime s.cfg s.seq.kind ≤ 2 ^ 63) :
    ∃ u, Host.Core.run Sys2Proof.core (T + 1) s = .next u ∧ PhaseStarts u (holdTime s.cfg s.seq.kind) later ∧
      u.seq.phase = .hold ∧ u.seq.dir = s.seq.dir ∧ u.seq.kind = s.seq.kind ∧ u.now.toNat = s.now.toNat + T := by
  have hrun := h.run_advance
  rw [advanceSeq_of_drive (s := s.ticked T _) hdrive hpos] at hrun
  have hnow := toNat_add_of_le h.time_bound
  exact ⟨_, hrun, ⟨nofun, rfl, hnow ▸ htime, rfl⟩, rfl, rfl, rfl, hnow⟩

end

/-- Settles O38: the phases one after the other, each with its actuator level after every TICK. -/
theorem sequenceHasTheActuatorWaveform : Obligations.SequenceHasTheActuatorWaveform := by
  rintro s drive hold rest - rfl hdrive hend htime
  have hbusy : s.seq.phase ≠ .idle := by simp [hdrive]
  refine ⟨fun hpos hs n hn => ?_, fun hzero hs n hn => ?_⟩
  · have hstart : PhaseStarts s drive _ := ⟨hbusy, hend, by omega, hs⟩
    obtain hdriving | ⟨m, hm, rfl⟩ : n ≤ drive ∨ ∃ m, m ≤ holdTime s.cfg s.seq.kind + 1 ∧ n = drive + 1 + m :=
      (Nat.lt_or_ge drive n).symm.imp_right fun _ => ⟨n - (drive + 1), by omega, by omega⟩
    · exact ⟨_, hstart.run hdriving, act_opp _, fun _ => ⟨toNat_add_of_le (by omega), act_of_drive hdrive⟩,
        by omega, by omega⟩
    obtain ⟨u, hrun, hhold, huphase, hudir, hukind, hunow⟩ := hstart.hold hdrive hpos htime
    rw [run_add _ m hrun, ← hudir]
    obtain hholding | rfl := Nat.le_succ_iff.mp hm
    · refine ⟨_, hhold.run hholding, act_opp _, by omega, fun _ _ => ⟨?_, act_of_hold huphase⟩, by omega⟩
      have := toNat_add_of_le (now := u.now) (n := m) (by omega)
      simp only [State.ticked]
      omega
    · obtain ⟨t, hlast, hdone⟩ := hhold.completed (.inl huphase)
      have := hdone.time
      exact ⟨t, hlast, hdone.actuators_off _, by omega, by omega, fun _ =>
        ⟨by omega, hdone.actuators_off _, hdone.is_idle, hukind ▸ hdone.lock_open, hdone.turns⟩⟩
  · have hstart : PhaseStarts s drive rest := ⟨hbusy, hend, by omega, hs⟩
    obtain hdriving | rfl := Nat.le_succ_iff.mp hn
    · exact ⟨_, hstart.run hdriving, act_opp _, fun _ => ⟨toNat_add_of_le (by omega), act_of_drive hdrive⟩, by omega⟩
    · obtain ⟨t, hlast, hdone⟩ := hstart.completed (.inr ⟨hdrive, hzero⟩)
      exact ⟨t, hlast, hdone.actuators_off _, by omega, fun _ =>
        ⟨hdone.time, hdone.actuators_off _, hdone.is_idle, hdone.lock_open, hdone.turns⟩⟩

end Sys2Proof.Machine
end

section
/-! O41, O42, O44, O46, O47: when an internal step is pending and what TICK does; the reads and writes of the timebase and bus
family (R190 to R197). -/

namespace Sys2Proof.Machine

/-! ### When an internal step is pending (R157, R191) -/

/-- An EVAL is productive when it is enabled and has something to do. -/
theorem evalProductive_iff (s : State) :
    evalProductive s = true ↔ s.seq.phase = .idle ∧ s.evalHold.toNat ≤ s.now.toNat ∧
      (s.doorTrig = true ∨ s.lk.entry.lo = true ∨ s.lk.exit.lo = true ∨
        lockedOpenCand s (sensorOpen s) .entry = true ∨ lockedOpenCand s (sensorOpen s) .exit = true ∨
        relockCand s (sensorOpen s) .entry = true ∨ relockCand s (sensorOpen s) .exit = true) := by
  simp only [evalProductive, Bool.and_eq_true, Bool.or_eq_true, Bool.not_eq_true', evalHeld_eq_false, and_assoc, or_assoc]

theorem internalPending_iff (s : State) :
    internalPending s = true ↔ (s.seq.phase ≠ .idle ∧ s.seq.endAt.toNat ≤ s.now.toNat) ∨ evalProductive s = true := by
  rw [internalPending, Bool.or_eq_true, Bool.not_eq_true', seqAdvanceHeld_eq_false]

/-- Settles O42: the candidates of a productive EVAL are the conditions of R159 and R160. -/
theorem internalPendingIsTheSchedulingRule : Obligations.InternalPendingIsTheSchedulingRule := by
  intro s hcfg
  rw [internalPending_iff, evalProductive_iff]
  simp only [lockedOpenCand_iff hcfg, relockCand_iff]

/-! ### TICK (R190) -/

/-- Settles O41: the three cases of TICK exclude each other. -/
theorem tickAdvancesTimeOrWaits : Obligations.TickAdvancesTimeOrWaits := by
  intro s
  have hbelow := timeOver_eq_false s
  obtain ⟨hover, e⟩ | ⟨hunder, hpending, e⟩ | ⟨hunder, hquiet, e⟩ := execTick_cases s
  · have hnot : ¬s.now.toNat < 2 ^ 63 := fun h => by simp [hbelow.mpr h] at hover
    exact ⟨fun _ => e, fun h => absurd h hnot, fun h => absurd h hnot⟩
  · have hlt := hbelow.mp hunder
    exact ⟨fun h => absurd hlt (Nat.not_lt_of_le h), fun _ _ => e, fun _ h => by simp [hpending] at h⟩
  · have hlt := hbelow.mp hunder
    have hnext : s.now + 1#64 = BitVec.ofNat 64 (s.now.toNat + 1) := by
      rw [← now_add_one_toNat hlt, BitVec.ofNat_toNat, BitVec.setWidth_eq]
    exact ⟨fun h => absurd hlt (Nat.not_lt_of_le h), fun _ h => by simp [hquiet] at h, fun _ _ => hnext ▸ e⟩

/-! ### The bus reads and writes (R193, R194, R196, R197) -/

/-- Settles O44: each read returns the low or the high word of `now`. -/
theorem nowReadsReturnItsWords : Obligations.NowReadsReturnItsWords := by
  intro s
  rw [← loWord_eq, ← hiWord_eq]
  exact ⟨rfl, rfl⟩

/-- A flag after a W1C write of its bit (R196). -/
theorem clearedFlag_eq (flag mask : Bool) : (flag && !mask) = if mask = true then false else flag := by
  cases mask
  · exact Bool.and_true flag
  · exact Bool.and_false flag

theorem exec_wrEvtFlags (data : Word) (s : State) : exec (.wrEvtFlags data) s = .next (s.clearFlags data) := rfl

/-- Settles O46: flag by flag, each keeps its value unless its bit of DATA is 1. -/
theorem writeOneClearsExactlyTheNamedFlags : Obligations.WriteOneClearsExactlyTheNamedFlags := by
  intro data s
  rw [exec_wrEvtFlags]
  simp only [State.clearFlags, clearedFlag_eq, w1cBad, w1cLockedOpen, w1cRelock, w1cReject]

/-- A read of `w` is the RD_RESERVED of `w` only if it is a word of that row. -/
theorem decodeRead_eq_rdReserved_iff (w : WordIdx) : decodeRead w = .rdReserved w ↔ readReserved w = true := by
  refine ⟨fun h => ?_, decodeRead_reserved⟩
  have hwf := decodeRead_wf w
  rwa [h] at hwf

theorem readReserved_iff (w : WordIdx) :
    readReserved w = true ↔
      w.toNat = 0x07 ∨ w.toNat = 0x0F ∨ w.toNat = 0x12 ∨ w.toNat = 0x13 ∨ 0x1E ≤ w.toNat := by
  simp [readReserved, BitVec.ule, ← BitVec.toNat_inj, or_assoc]

/-- Settles O47: the read is a constant, and the words are those of `readReserved`. -/
theorem reservedReadsReturnZero : Obligations.ReservedReadsReturnZero :=
  ⟨fun _ _ => rfl, fun w => (decodeRead_eq_rdReserved_iff w).trans (readReserved_iff w)⟩

end Sys2Proof.Machine
end

section
/-! O43: an evaluation leaves no internal step pending, and a sequencer step leaves at most an evaluation (R191, R252). -/

namespace Sys2Proof.Machine

/-! ### What an internal step leaves pending -/

theorem driveTime_pos {g : Config} (h : badParams g = []) (k : Kind) : 0 < driveTime g k := by
  cases k
  · exact (durationOf_in_range h .tDriveOpen).1
  · exact (durationOf_in_range h .tDriveOpen).1
  · exact (durationOf_in_range h .tDriveClose).1

/-- An instant that a positive duration sets is still to come. -/
theorem BlockInv.now_lt_after {s : State} (h : BlockInv s) {n : Nat} (hpos : 0 < n) (hn : n ≤ maxDuration) :
    s.now.toNat < (s.after n).toNat := by
  rw [h.after_toNat hn]
  exact Nat.lt_add_of_pos_right hpos

/-- While no sequence runs, only a productive EVAL is pending. -/
theorem internalPending_of_idle {s : State} (hidle : s.seq.phase = .idle) : internalPending s = evalProductive s := by
  rw [Bool.eq_iff_iff, internalPending_iff]
  simp [hidle]

/-- Before `evalHold` no EVAL is productive. -/
theorem evalProductive_of_before_hold {s : State} (h : s.now.toNat < s.evalHold.toNat) : evalProductive s = false := by
  rw [← Bool.not_eq_true, evalProductive_iff]
  exact fun ⟨_, hhold, _⟩ => absurd h (Nat.not_lt_of_le hhold)

/-- A started sequence runs for at least 1 ms. -/
theorem BlockInv.startSeq_quiet {s : State} (h : BlockInv s) (k : Kind) (d : Dir) :
    internalPending (s.startSeq k d) = false :=
  internalPending_of_running nofun
    (h.now_lt_after (driveTime_pos h.config_in_range k) (driveTime_le h.config_in_range k))

theorem evalChoice_eq_none {s : State} {smp : Bool} (h : evalChoice s smp = none) (d : Dir) :
    lockedOpenCand s smp d = false ∧ relockCand s smp d = false := by
  obtain ⟨-, e⟩ | ⟨-, -, e⟩ | ⟨-, -, -, e⟩ | ⟨-, -, -, -, e⟩ | ⟨hopenEntry, hopenExit, hlockEntry, hlockExit, -⟩ :=
    evalChoice_cases s smp
  case inr.inr.inr.inr =>
    cases d
    · exact ⟨hopenEntry, hlockEntry⟩
    · exact ⟨hopenExit, hlockExit⟩
  all_goals cases e.symm.trans h

/-- Without a trigger and a candidate the iteration end leaves nothing to do before `evalHold`. -/
theorem BlockInv.iterationEnd_quiet {s : State} (h : BlockInv s) (hidle : s.seq.phase = .idle) (htrig : s.doorTrig = false)
    (hnone : evalChoice s (sensorOpen s) = none) : internalPending s.iterationEnd = false := by
  rw [internalPending_of_idle (by rw [iterationEnd_seq, hidle])]
  obtain ⟨-, e⟩ | ⟨hentry, hexit, e⟩ := iterationEnd_cases s <;> rw [e]
  · obtain ⟨hpos, hle⟩ := durationOf_in_range h.config_in_range .pollDelay
    exact evalProductive_of_before_hold (h.now_lt_after hpos hle)
  · rw [← Bool.not_eq_true, evalProductive_iff]
    simp [htrig, hentry, hexit, evalChoice_eq_none hnone]

@[simp] theorem swing_doorTrig (s : State) : s.swing.doorTrig = false := by
  rw [swing_frame]

/-- After an evaluation no internal step is pending: a sequence has started, or no candidate was left. -/
theorem BlockInv.evaluate_quiet {s : State} (h : BlockInv s) (hidle : s.seq.phase = .idle) :
    internalPending s.evaluate = false := by
  obtain ⟨k, d, -, e⟩ | ⟨hnone, e⟩ := evalAct_cases s.swing (sensorOpen s) <;> rw [State.evaluate, e]
  · exact h.swing.startSeq_quiet k d
  · rw [← sensorOpen_swing] at hnone
    exact h.swing.iterationEnd_quiet (by rw [swing_seq, hidle]) (swing_doorTrig s) hnone

/-- A sequencer step starts a hold phase, which runs for at least 1 ms, or ends the sequence. -/
theorem BlockInv.advanceSeq_quiet_or_idle {s : State} (h : BlockInv s) :
    internalPending s.advanceSeq = false ∨ s.advanceSeq.seq.phase = .idle := by
  obtain ⟨-, hpos, e⟩ | ⟨-, e⟩ := advanceSeq_cases s <;> rw [e]
  · exact .inl (internalPending_of_running nofun (h.now_lt_after hpos (holdTime_le h.config_in_range _)))
  · exact .inr (by rw [iterationEnd_seq, setSeq_seq])

/-! ### The end state of a run (R252) -/

theorem internalStep_of_idle {s : State} (hidle : s.seq.phase = .idle) (hpending : internalPending s = true) :
    internalStep s = s.evaluate := by
  have hheld : seqAdvanceHeld s = true := by simp [seqAdvanceHeld, hidle]
  rw [internalPending_of_idle hidle] at hpending
  simp [internalStep, hheld, hpending]

/-- While a sequence runs, only its own step can be pending. -/
theorem internalStep_of_busy {s : State} (hbusy : s.seq.phase ≠ .idle) (hpending : internalPending s = true) :
    internalStep s = s.advanceSeq := by
  obtain hdue | hproductive := (internalPending_iff s).mp hpending
  · simp [internalStep, (seqAdvanceHeld_eq_false s).mpr hdue]
  · exact absurd ((evalProductive_iff s).mp hproductive).1 hbusy

theorem settleWithin_of_quiet {s : State} (n : Nat) (h : internalPending s = false) : settleWithin n s = s := by
  cases n with
  | zero => rfl
  | succ n => simp [settleWithin, h]

theorem settleWithin_of_pending {s : State} (n : Nat) (h : internalPending s = true) :
    settleWithin (n + 1) s = settleWithin n (internalStep s) := if_pos h

/-- While no sequence runs, one internal step is enough. -/
theorem BlockInv.settleWithin_quiet_of_idle {s : State} (h : BlockInv s) (hidle : s.seq.phase = .idle) (n : Nat) :
    internalPending (settleWithin (n + 1) s) = false := by
  cases hpending : internalPending s with
  | false => rwa [settleWithin_of_quiet (n + 1) hpending]
  | true =>
    have hquiet := h.evaluate_quiet hidle
    rwa [settleWithin_of_pending n hpending, internalStep_of_idle hidle hpending, settleWithin_of_quiet n hquiet]

/-- Settles O43: a sequencer step, if one is due, and then an evaluation, if one is productive. -/
theorem atMostTwoInternalStepsUntilQuiet : Obligations.AtMostTwoInternalStepsUntilQuiet := by
  intro s h
  unfold settle
  by_cases hidle : s.seq.phase = .idle
  · exact h.settleWithin_quiet_of_idle hidle 1
  cases hpending : internalPending s with
  | false => rwa [settleWithin_of_quiet 2 hpending]
  | true =>
    rw [settleWithin_of_pending 1 hpending, internalStep_of_busy hidle hpending]
    obtain hquiet | hended := h.advanceSeq_quiet_or_idle
    · rwa [settleWithin_of_quiet 1 hquiet]
    · exact (h.advanceSeq hidle).settleWithin_quiet_of_idle hended 0

end Sys2Proof.Machine
end

section
/-! O4, O6: which stimuli are held, and what a retry turn does with one that waits (R59, R212). -/

namespace Sys2Proof.Machine

/-! ### The hold table (R212) -/

/-- A stimulus is held exactly when it is one of the four that can be, and its own hold is on. -/
theorem heldNow_iff (i : Instr) (s : State) :
    heldNow i s = true ↔
      (∃ data, i = .wrLockUnlock data ∧ unlockHeld s = true) ∨ (i = .seqAdvance ∧ seqAdvanceHeld s = true) ∨
      (i = .eval ∧ evalHeld s = true) ∨ (i = .tick ∧ tickHeld s = true) := by
  refine ⟨heldNow_cases, ?_⟩
  rintro (⟨data, rfl, h⟩ | ⟨rfl, h⟩ | ⟨rfl, h⟩ | ⟨rfl, h⟩) <;> exact h

theorem unlockHeld_iff (s : State) : unlockHeld s = true ↔ s.seq.phase ≠ .idle := by
  rw [← Bool.not_eq_false, unlockHeld_eq_false]

theorem seqAdvanceHeld_iff (s : State) :
    seqAdvanceHeld s = true ↔ s.seq.phase = .idle ∨ s.now.toNat < s.seq.endAt.toNat := by
  rw [← Bool.not_eq_false, seqAdvanceHeld_eq_false, not_and_or, not_not, Nat.not_le]

theorem evalHeld_iff (s : State) : evalHeld s = true ↔ s.seq.phase ≠ .idle ∨ s.now.toNat < s.evalHold.toNat := by
  rw [← Bool.not_eq_false, evalHeld_eq_false, not_and_or, Nat.not_le]

theorem tickHeld_iff (s : State) :
    tickHeld s = true ↔ s.now.toNat < 2 ^ 63 ∧
      ((s.seq.phase ≠ .idle ∧ s.seq.endAt.toNat ≤ s.now.toNat) ∨ evalProductive s = true) := by
  rw [tickHeld_eq_true, timeOver_eq_false, internalPending_iff]

/-- Settles O4: the table stimulus by stimulus, each hold in the fields that it reads. -/
theorem holdTable : Obligations.HoldTable := by
  intro i s
  simp only [heldNow_iff, unlockHeld_iff, seqAdvanceHeld_iff, evalHeld_iff, tickHeld_iff]

/-! ### The retry turn (R59, R212) -/

/-- No hold reads the schedule. -/
theorem heldNow_schedule (i : Instr) (s : State) (rest : List Turn) :
    heldNow i { s with schedule := rest } = heldNow i s := by
  cases i <;> rfl

/-- `NextWaiter w k i w'`: the stimulus that a retry of kind `k` takes from `w` is `i`, and `w'` is what waits without it. -/
inductive NextWaiter (w : Waiting) : HeldKind → Instr → Waiting → Prop where
  | bus {i : Instr} {more : List Instr} : w.bus = i :: more → NextWaiter w .bus i { w with bus := more }
  | tick {n : Nat} : w.ticks = n + 1 → NextWaiter w .tick .tick { w with ticks := n }
  | eval {n : Nat} : w.evals = n + 1 → NextWaiter w .eval .eval { w with evals := n }
  | seqAdvance {n : Nat} : w.seqAdvances = n + 1 → NextWaiter w .seqAdvance .seqAdvance { w with seqAdvances := n }

theorem retry_of_nextWaiter {s : State} {k : HeldKind} {i : Instr} {w : Waiting} (h : NextWaiter s.waiting k i w) :
    retry k s = if heldNow i s then .next s else exec i { s with waiting := w } := by
  cases h with
  | bus h | tick h | eval h | seqAdvance h => simp only [retry, h]

/-- A retry turn runs the stimulus it takes on the state without it, or leaves it waiting while it is held. -/
theorem step_of_retry {s : State} {rest : List Turn} {k : HeldKind} {i : Instr} {w : Waiting}
    (hs : s.schedule = .retry k :: rest) (h : NextWaiter s.waiting k i w) :
    (heldNow i s = false → step s = exec i { s with schedule := rest, waiting := w }) ∧
    (heldNow i s = true → step s = .next { s with schedule := rest }) := by
  have hturn : step s = retry k { s with schedule := rest } := by simp only [step, hs, takeTurn]
  have hretry := retry_of_nextWaiter (s := { s with schedule := rest }) h
  rw [heldNow_schedule] at hretry
  exact ⟨fun hfree => hturn.trans (hretry.trans (if_neg (Bool.eq_false_iff.mp hfree))),
    fun hheld => hturn.trans (hretry.trans (if_pos hheld))⟩

/-- Settles O6: each of the four kinds has a next waiter. -/
theorem waitingStimulusRunsOnceItsHoldLifts : Obligations.WaitingStimulusRunsOnceItsHoldLifts := fun _ _ =>
  ⟨fun _ _ hs hbus => step_of_retry hs (.bus hbus), fun _ hs hticks => step_of_retry hs (.tick hticks),
    fun _ hs hevals => step_of_retry hs (.eval hevals), fun _ hs hadvances => step_of_retry hs (.seqAdvance hadvances)⟩

end Sys2Proof.Machine
end

section
/-! O51: what power-on does with a configuration outside the ranges (R5, R211). -/

namespace Sys2Proof.Machine

theorem refuseConfig_refusals (s : State) (ps : List Param) :
    (refuseConfig s ps).refusals = s.refusals ++ ps.map .badConfig := by
  induction ps generalizing s with
  | nil => exact (List.append_nil _).symm
  | cons p ps ih => rw [refuseConfig, ih, raiseRefused_refusals, List.append_assoc]; rfl

theorem refuseConfig_refused_iff (s : State) (ps : List Param) :
    (refuseConfig s ps).refused = true ↔ s.refused = true ∨ ps ≠ [] := by
  induction ps generalizing s with
  | nil => simp [refuseConfig]
  | cons p ps ih => simp [refuseConfig, ih]

/-- No parameter is bad exactly when each is in its range; `durationOf_in_range` is one direction. -/
theorem badParams_eq_nil_iff (g : Config) :
    badParams g = [] ↔ ∀ p, (durationOf g p).2 ≤ (durationOf g p).1 ∧ (durationOf g p).1 ≤ maxDuration := by
  refine ⟨durationOf_in_range, fun h => ?_⟩
  simp [badParams, paramOk, h]

/-- The ranges parameter by parameter; a least value of 0 says nothing of a natural number. -/
theorem badParams_eq_nil_iff_ranges (g : Config) :
    badParams g = [] ↔
      (1 ≤ g.tBit ∧ g.tBit ≤ 2 ^ 32 - 1) ∧ (1 ≤ g.pollDelay ∧ g.pollDelay ≤ 2 ^ 32 - 1) ∧
      (1 ≤ g.tDriveOpen ∧ g.tDriveOpen ≤ 2 ^ 32 - 1) ∧ (1 ≤ g.tDriveClose ∧ g.tDriveClose ≤ 2 ^ 32 - 1) ∧
      g.tHoldOpen ≤ 2 ^ 32 - 1 ∧ g.tHoldClose ≤ 2 ^ 32 - 1 ∧ g.doorTimeout ≤ 2 ^ 32 - 1 ∧
      g.doorSwingTimeout ≤ 2 ^ 32 - 1 ∧ g.obstructionWindow ≤ 2 ^ 32 - 1 ∧ g.lockedOpenTimeout ≤ 2 ^ 32 - 1 := by
  rw [badParams_eq_nil_iff]
  constructor
  · intro h
    exact ⟨h .tBit, h .pollDelay, h .tDriveOpen, h .tDriveClose, (h .tHoldOpen).2, (h .tHoldClose).2, (h .doorTimeout).2,
      (h .doorSwingTimeout).2, (h .obstructionWindow).2, (h .lockedOpenTimeout).2⟩
  · rintro ⟨hbit, hpoll, hdriveOpen, hdriveClose, hholdOpen, hholdClose, hdoor, hswing, hwindow, hlockedOpen⟩ p
    cases p with
    | tBit => exact hbit
    | pollDelay => exact hpoll
    | tDriveOpen => exact hdriveOpen
    | tDriveClose => exact hdriveClose
    | tHoldOpen => exact ⟨Nat.zero_le _, hholdOpen⟩
    | tHoldClose => exact ⟨Nat.zero_le _, hholdClose⟩
    | doorTimeout => exact ⟨Nat.zero_le _, hdoor⟩
    | doorSwingTimeout => exact ⟨Nat.zero_le _, hswing⟩
    | obstructionWindow => exact ⟨Nat.zero_le _, hwindow⟩
    | lockedOpenTimeout => exact ⟨Nat.zero_le _, hlockedOpen⟩

/-- Settles O51: power-on raises one refusal for each bad parameter, and nothing else marks it. -/
theorem badConfigurationsAreRefused : Obligations.BadConfigurationsAreRefused := by
  intro g door schedule
  rw [← badParams_eq_nil_iff_ranges, State.powerOn, refuseConfig_refused_iff, refuseConfig_refusals]
  exact ⟨or_iff_right Bool.false_ne_true, rfl⟩

end Sys2Proof.Machine
end

section
/-! O2, O39, O40: host accesses on the stalled bus (R59, R240, R247). -/

namespace Sys2Proof.Machine

/-- Settles O2: presented behind a stalled access, a host access joins the queue and does not run. -/
theorem hostAccessBehindAStalledOneWaits : Obligations.HostAccessBehindAStalledOneWaits := by
  intro s x rest i hs hd haccess hwaits
  have hstalled : busStalled { s with schedule := rest } = true := by
    rw [← Bool.not_eq_false, busStalled_eq_false]
    exact hwaits
  simp only [step, hs, takeTurn, arrive, hd, present, haccess, hstalled, Bool.and_self, if_true, State.holdBus]

/-- When a step leaves the sequencer IDLE, a retry turn then runs the request that waits first on the bus, which asks the
interlock of that instant (R146). -/
theorem run_held_request {s u : State} {data : Word} {d : Dir} {more : List Instr} {rest : List Turn}
    (hd : d = if data.getLsbD 8 then .exit else .entry) (hstep : step s = .next u) (hidle : u.seq.phase = .idle)
    (hs : u.schedule = .retry .bus :: rest) (hb : u.waiting.bus = .wrLockUnlock data :: more) :
    ((u.lk.get (opp d)).isOpen = false → Host.Core.run Sys2Proof.core 2 s = .next { u with
      schedule := rest
      waiting := { u.waiting with bus := more }
      seq := { phase := .drive, dir := d, kind := .unlockPermit, endAt := u.now + BitVec.ofNat 64 u.cfg.tDriveOpen } }) ∧
    ((u.lk.get (opp d)).isOpen = true → Host.Core.run Sys2Proof.core 2 s = .next { u with
      schedule := rest
      waiting := { u.waiting with bus := more }
      evtRJ := u.evtRJ.set d true }) := by
  have hfree : heldNow (.wrLockUnlock data) u = false := (unlockHeld_eq_false u).mpr hidle
  have hretry := (step_of_retry hs (.bus hb)).1 hfree
  have hrun : ∀ {v}, step u = .next v → Host.Core.run Sys2Proof.core 2 s = .next v := fun h => by
    rw [run_succ 1 hstep, run_succ 0 h, run_zero]
  obtain ⟨hstart, hreject, -⟩ :=
    unlockRequestStartsOrIsRejected data { u with schedule := rest, waiting := { u.waiting with bus := more } } d hd
  exact ⟨fun h => hrun (hretry.trans (hstart hidle h)), fun h => hrun (hretry.trans (hreject hidle h))⟩

/-- Settles O39: the SEQ_ADVANCE opens `opp d` and goes IDLE, so the interlock then rejects the request for `d`. -/
theorem heldRequestIsJudgedWhenItRuns : Obligations.HeldRequestIsJudgedWhenItRuns := by
  intro s data d more rest hd hhold hkind hdir hend hb hs
  have hcommit := (step_of_arrive hs decode_seqAdvance rfl).trans
    (unlockPermitCommits { s with schedule := .retry .bus :: rest } (opp d) hdir hkind hend (.inl hhold))
  refine ⟨_, (run_held_request hd hcommit rfl rfl hb).2 ?interlock, ?rejected, rfl, ?opened, ?kept, rfl⟩
  case interlock | rejected | opened => simp
  case kept => rw [perDir_get_set_other _ (opp_ne d).symm]

theorem decode_reset : decode 0x400000000000#48 = .ok .reset := by decide

theorem exec_reset (s : State) : exec .reset s = .next s.blockReset := rfl

/-- RESET leaves both locks closed, so no interlock stands in the way of a request. -/
@[simp] theorem blockReset_isOpen (s : State) (d : Dir) : (s.blockReset.lk.get d).isOpen = false := by
  cases d <;> rfl

/-- Settles O40: the RESET leaves the request waiting, the sequencer IDLE, both locks closed and `now` = 0. -/
theorem heldRequestSurvivesReset : Obligations.HeldRequestSurvivesReset := by
  intro s data d more rest hd _ hb hs
  have hreset := (step_of_arrive hs decode_reset rfl).trans (exec_reset _)
  refine ⟨_, (run_held_request hd hreset rfl rfl hb).1 (blockReset_isOpen _ _), ?_, rfl, rfl⟩
  exact congrArg (Sequencer.mk .drive d .unlockPermit) (BitVec.zero_add _)

end Sys2Proof.Machine
end

section
/-! O33: at most one internal step is enabled (R157, R252). -/

namespace Sys2Proof.Machine

/-- Without a trigger swing does nothing. -/
theorem swing_of_no_trigger {s : State} (h : s.doorTrig = false) : s.swing = s := by
  simp [State.swing, h]

/-- Without a candidate the evaluation chooses no sequence; `evalChoice_eq_none` is the other direction. -/
theorem evalChoice_of_no_candidate {s : State} {smp : Bool}
    (h : ∀ d, lockedOpenCand s smp d = false ∧ relockCand s smp d = false) : evalChoice s smp = none := by
  simp [evalChoice, h]

/-- With both directions polled at the full rate the iteration end does nothing. -/
theorem iterationEnd_of_not_lockedOpen {s : State} (hentry : s.lk.entry.lo = false) (hexit : s.lk.exit.lo = false) :
    s.iterationEnd = s := by
  simp [State.iterationEnd, hentry, hexit]

/-- An enabled EVAL that is not productive finds no trigger, no `LockedOpen` direction and no candidate. -/
theorem nothing_to_evaluate {s : State} (henabled : evalHeld s = false) (hunproductive : evalProductive s = false) :
    s.doorTrig = false ∧ s.lk.entry.lo = false ∧ s.lk.exit.lo = false ∧
      ∀ d, lockedOpenCand s (sensorOpen s) d = false ∧ relockCand s (sensorOpen s) d = false := by
  simp only [evalProductive, henabled, Bool.not_false, Bool.true_and, Bool.or_eq_false_iff] at hunproductive
  obtain ⟨⟨⟨⟨⟨⟨htrig, hentry⟩, hexit⟩, hopenEntry⟩, hopenExit⟩, hlockEntry⟩, hlockExit⟩ := hunproductive
  refine ⟨htrig, hentry, hexit, fun d => ?_⟩
  cases d
  · exact ⟨hopenEntry, hlockEntry⟩
  · exact ⟨hopenExit, hlockExit⟩

/-- Settles O33: EVAL wants IDLE and SEQ_ADVANCE a running sequence; and with nothing to evaluate, no part of EVAL writes. -/
theorem unproductiveEvalChangesNothing : Obligations.UnproductiveEvalChangesNothing := by
  intro s
  refine ⟨fun ⟨heval, hseq⟩ => ?_, fun henabled hunproductive => ?_⟩
  · exact ((seqAdvanceHeld_eq_false s).mp hseq).1 ((evalHeld_eq_false s).mp heval).1
  · obtain ⟨htrig, hentry, hexit, hnone⟩ := nothing_to_evaluate henabled hunproductive
    obtain ⟨hidle, hhold⟩ := (evalHeld_eq_false s).mp henabled
    rw [exec_eval_of_enabled hidle hhold, swing_of_no_trigger htrig, evalAct_of_none (evalChoice_of_no_candidate hnone),
      iterationEnd_of_not_lockedOpen hentry hexit]

end Sys2Proof.Machine
end

section
/-! O49, O50, O52: RESET and power-on (R36, R240 to R242). -/

namespace Sys2Proof.Machine

/-! ### What the host reads after RESET -/

theorem ready_blockReset (s : State) (c : Dir) : ready s.blockReset c = false := by
  cases c <;> rfl

theorem evtFlagsWord_blockReset (s : State) : evtFlagsWord s.blockReset = 0#32 := by
  rw [evtFlagsWord, ready_blockReset, ready_blockReset]
  simp only [State.blockReset]
  decide

/-- After RESET only SENSOR_OPEN, bit 4 of LOCK_STATUS, can be set. -/
theorem lockStatusWord_blockReset (s : State) :
    lockStatusWord s.blockReset = if s.door = s.cfg.sensorOpenLevel then 0x10#32 else 0#32 := by
  have hsample : sensorOpen s.blockReset = sensorOpen s := rfl
  have hlevel : s.door = s.cfg.sensorOpenLevel ↔ sensorOpen s = true := (sensorOpen_iff s).symm
  rw [lockStatusWord, act_of_idle rfl, act_of_idle rfl, hsample]
  simp only [hlevel, State.blockReset, seqBusy, evalHeldView]
  cases sensorOpen s <;> decide

/-- Settles O49: the meaning of RESET is R36's table, whatever the state was. -/
theorem resetSetsEveryField : Obligations.ResetSetsEveryField := by
  refine fun s => ⟨s.blockReset, exec_reset s, rfl, ?_, ?_, act_of_idle rfl _, act_of_idle rfl _, exec_reset _⟩
  · exact congrArg (fun v => Host.Outcome.next (s.blockReset.busReturn v)) (evtFlagsWord_blockReset s)
  · exact congrArg (fun v => Host.Outcome.next (s.blockReset.busReturn v)) (lockStatusWord_blockReset s)

/-! ### Power-on -/

/-- A configuration in range raises no refusal. -/
theorem powerOn_of_in_range {g : Config} (hg : badParams g = []) (door : Bool) (schedule : List Turn) :
    State.powerOn g door schedule = { State.reset with cfg := g, door := door, schedule := schedule } := by
  rw [State.powerOn, hg, refuseConfig]

/-- Settles O50: such a power-on state is written out, and RESET writes the same values. -/
theorem powerOnIsTheResetState : Obligations.PowerOnIsTheResetState := by
  intro g door schedule hg
  rw [powerOn_of_in_range hg]
  exact ⟨_, rfl, rfl, rfl, rfl, rfl, rfl, rfl, rfl, rfl⟩

/-- Each OPEN parameter of the implementation is in its range by its type, each of the others by its value. -/
theorem badParams_implementation : badParams Config.implementation = [] := by
  rw [badParams_eq_nil_iff_ranges]
  simp only [Config.implementation]
  omega

/-- Settles O52: the reset state is a power-on state, that of the implementation. -/
theorem powerOnHasTheInvariant : Obligations.PowerOnHasTheInvariant := by
  refine ⟨?_, fun g door schedule => blockInv_powerOn door schedule⟩
  have h := blockInv_powerOn Config.doorAtPowerOn [] badParams_implementation
  rwa [powerOn_of_in_range badParams_implementation] at h

end Sys2Proof.Machine
end
